-- ==== Sys2Proof/Word.lean ====
section
/-! DEFINITION. The two bit-vector types of the core: a byte (8 bits) and a 16-bit word (R12). Everything that
computes with them stands in Decode.lean and under Machine/. -/

namespace Sys2Proof

/-- A byte: a register, a memory cell, an opcode, an immediate (R12). Bit 7 is the most significant (00_scope 5.1). -/
abbrev Byte := BitVec 8

/-- A 16-bit value: PC, SP, a register pair, a 16-bit immediate or address (R12). -/
abbrev Word := BitVec 16

end Sys2Proof
end

