-- ==== Sys2Proof/Config.lean ====
section
/-! DEFINITION. What one implementation fixes: the parameters of a run (R7 to R11, R39) and the values this model
names where the spec gives none (log entries 1, 2, 3, 4). The spec leaves no value to be drawn at run time (R6), so there
is no free value here. -/

namespace Sys2Proof

/-- `HANDLER_SET` (R9): which opcode bytes have a registered handler. Only the two supported values exist (D4), so a
set that holds a class P or class U byte cannot be written down (I8). -/
inductive HandlerSet where
  /-- `F`: only the families the document names. -/
  | documented
  /-- `F ∪ X`: the default, 239 byte values. -/
  | full
  deriving DecidableEq, Repr

/-- The configuration inputs, sampled at reset and constant afterwards (R39). `INIT_MEM` and `INIT_STATE` are the
arguments of `Machine.boot`. -/
structure RunConfig where
  /-- `MEM_SIZE` (R7): the number of bytes of Memory. -/
  memSize : Nat
  /-- `PROGRAM_END` (R8): the address one past the last byte of the loaded program. -/
  programEnd : Nat
  /-- `HANDLER_SET` (R9). -/
  handlers : HandlerSet
  deriving DecidableEq, Repr

/-- The configurations a model must accept (R7, R8, I11): `1 ≤ MEM_SIZE ≤ 65536` and `PROGRAM_END ≤ MEM_SIZE`. -/
def RunConfig.valid (c : RunConfig) : Bool :=
  decide (1 ≤ c.memSize) && decide (c.memSize ≤ 65536) && decide (c.programEnd ≤ c.memSize)

/-- `MEM_SIZE` of this hardware (R7). -/
def Config.memSize : Nat := 65536

/-- `HANDLER_SET` of this hardware (R9). -/
def Config.handlers : HandlerSet := .full

/-- What a memory byte that is not listed reads as. DESIGN CHOICE, unsafe, log entry 1: the spec leaves it arbitrary
(R10). -/
def Config.unlistedByte : Byte := 0x00#8

/-- The value of A, B, C, D, E, H, L in `State.reset`. DESIGN CHOICE, unsafe, log entry 2: the spec leaves it
arbitrary (R11). -/
def Config.resetByte : Byte := 0x00#8

/-- The value of SP in `State.reset`. DESIGN CHOICE, unsafe, log entry 3: the spec leaves it arbitrary (R11). -/
def Config.resetSp : Word := 0x0000#16

/-- The value of each of the five flags in `State.reset`. DESIGN CHOICE, unsafe, log entry 4: the spec leaves it
arbitrary (R11). -/
def Config.resetFlag : Bool := false

end Sys2Proof
end

