-- ==== Sys2Proof/Syntax.lean ====
section
/-! DEFINITION. The instructions as syntax: the operand names of the spec (registers R20, pairs R24, conditions R128) and
one constructor per row of spec/opcode_table.json, that is per opcode byte (R87, R98). A one-byte immediate is `d8`, a
two-byte one is `d16` or `a16` with byte 2 high (R84, R85). The 17 bytes of classes P and U have no operand: their
operand bytes are never read (R112, D24). -/

namespace Sys2Proof

/-- The seven byte registers (R20). -/
inductive Reg where
  | a | b | c | d | e | h | l
  deriving DecidableEq, Repr

/-- The 16-bit operands a pair code selects in LXI, INX, DCX and DAD (R24); PUSH and POP replace SP by PSW. -/
inductive Pair where
  | bc | de | hl | sp
  deriving DecidableEq, Repr

/-- The eight conditions (R128): not zero, zero, no carry, carry, parity odd, parity even, plus, minus. -/
inductive Cond where
  | nz | z | nc | c | po | pe | p | m
  deriving DecidableEq, Repr

/-- The instructions, family by family, in the order of the files 41 to 49 and, within a rule, of their opcode bytes.
The order means nothing; the opcode byte is in `encode` (Decode.lean). -/
inductive Instr where
  /-- `MOV B,B`, 0x40, class F (R150). -/
  | movBB
  /-- `MOV B,C`, 0x41, class F (R150). -/
  | movBC
  /-- `MOV B,D`, 0x42, class F (R150). -/
  | movBD
  /-- `MOV B,E`, 0x43, class F (R150). -/
  | movBE
  /-- `MOV B,H`, 0x44, class F (R150). -/
  | movBH
  /-- `MOV B,L`, 0x45, class F (R150). -/
  | movBL
  /-- `MOV B,A`, 0x47, class F (R150). -/
  | movBA
  /-- `MOV C,B`, 0x48, class F (R150). -/
  | movCB
  /-- `MOV C,C`, 0x49, class F (R150). -/
  | movCC
  /-- `MOV C,D`, 0x4A, class F (R150). -/
  | movCD
  /-- `MOV C,E`, 0x4B, class F (R150). -/
  | movCE
  /-- `MOV C,H`, 0x4C, class F (R150). -/
  | movCH
  /-- `MOV C,L`, 0x4D, class F (R150). -/
  | movCL
  /-- `MOV C,A`, 0x4F, class F (R150). -/
  | movCA
  /-- `MOV D,B`, 0x50, class F (R150). -/
  | movDB
  /-- `MOV D,C`, 0x51, class F (R150). -/
  | movDC
  /-- `MOV D,D`, 0x52, class F (R150). -/
  | movDD
  /-- `MOV D,E`, 0x53, class F (R150). -/
  | movDE
  /-- `MOV D,H`, 0x54, class F (R150). -/
  | movDH
  /-- `MOV D,L`, 0x55, class F (R150). -/
  | movDL
  /-- `MOV D,A`, 0x57, class F (R150). -/
  | movDA
  /-- `MOV E,B`, 0x58, class F (R150). -/
  | movEB
  /-- `MOV E,C`, 0x59, class F (R150). -/
  | movEC
  /-- `MOV E,D`, 0x5A, class F (R150). -/
  | movED
  /-- `MOV E,E`, 0x5B, class F (R150). -/
  | movEE
  /-- `MOV E,H`, 0x5C, class F (R150). -/
  | movEH
  /-- `MOV E,L`, 0x5D, class F (R150). -/
  | movEL
  /-- `MOV E,A`, 0x5F, class F (R150). -/
  | movEA
  /-- `MOV H,B`, 0x60, class F (R150). -/
  | movHB
  /-- `MOV H,C`, 0x61, class F (R150). -/
  | movHC
  /-- `MOV H,D`, 0x62, class F (R150). -/
  | movHD
  /-- `MOV H,E`, 0x63, class F (R150). -/
  | movHE
  /-- `MOV H,H`, 0x64, class F (R150). -/
  | movHH
  /-- `MOV H,L`, 0x65, class F (R150). -/
  | movHL
  /-- `MOV H,A`, 0x67, class F (R150). -/
  | movHA
  /-- `MOV L,B`, 0x68, class F (R150). -/
  | movLB
  /-- `MOV L,C`, 0x69, class F (R150). -/
  | movLC
  /-- `MOV L,D`, 0x6A, class F (R150). -/
  | movLD
  /-- `MOV L,E`, 0x6B, class F (R150). -/
  | movLE
  /-- `MOV L,H`, 0x6C, class F (R150). -/
  | movLH
  /-- `MOV L,L`, 0x6D, class F (R150). -/
  | movLL
  /-- `MOV L,A`, 0x6F, class F (R150). -/
  | movLA
  /-- `MOV A,B`, 0x78, class F (R150). -/
  | movAB
  /-- `MOV A,C`, 0x79, class F (R150). -/
  | movAC
  /-- `MOV A,D`, 0x7A, class F (R150). -/
  | movAD
  /-- `MOV A,E`, 0x7B, class F (R150). -/
  | movAE
  /-- `MOV A,H`, 0x7C, class F (R150). -/
  | movAH
  /-- `MOV A,L`, 0x7D, class F (R150). -/
  | movAL
  /-- `MOV A,A`, 0x7F, class F (R150). -/
  | movAA
  /-- `MOV B,M`, 0x46, class F (R151). -/
  | movBM
  /-- `MOV C,M`, 0x4E, class F (R151). -/
  | movCM
  /-- `MOV D,M`, 0x56, class F (R151). -/
  | movDM
  /-- `MOV E,M`, 0x5E, class F (R151). -/
  | movEM
  /-- `MOV H,M`, 0x66, class F (R151). -/
  | movHM
  /-- `MOV L,M`, 0x6E, class F (R151). -/
  | movLM
  /-- `MOV A,M`, 0x7E, class F (R151). -/
  | movAM
  /-- `MOV M,B`, 0x70, class F (R152). -/
  | movMB
  /-- `MOV M,C`, 0x71, class F (R152). -/
  | movMC
  /-- `MOV M,D`, 0x72, class F (R152). -/
  | movMD
  /-- `MOV M,E`, 0x73, class F (R152). -/
  | movME
  /-- `MOV M,H`, 0x74, class F (R152). -/
  | movMH
  /-- `MOV M,L`, 0x75, class F (R152). -/
  | movML
  /-- `MOV M,A`, 0x77, class F (R152). -/
  | movMA
  /-- `LDAX B`, 0x0A, class F (R153). -/
  | ldaxB
  /-- `LDAX D`, 0x1A, class F (R153). -/
  | ldaxD
  /-- `STAX B`, 0x02, class F (R154). -/
  | staxB
  /-- `STAX D`, 0x12, class F (R154). -/
  | staxD
  /-- `LXI B,d16`, 0x01, class F (R155). -/
  | lxiB (d16 : Word)
  /-- `LXI D,d16`, 0x11, class F (R155). -/
  | lxiD (d16 : Word)
  /-- `LXI H,d16`, 0x21, class F (R155). -/
  | lxiH (d16 : Word)
  /-- `LXI SP,d16`, 0x31, class F (R156). -/
  | lxiSp (d16 : Word)
  /-- `ADD B`, 0x80, class F (R170). -/
  | addB
  /-- `ADD C`, 0x81, class F (R170). -/
  | addC
  /-- `ADD D`, 0x82, class F (R170). -/
  | addD
  /-- `ADD E`, 0x83, class F (R170). -/
  | addE
  /-- `ADD H`, 0x84, class F (R170). -/
  | addH
  /-- `ADD L`, 0x85, class F (R170). -/
  | addL
  /-- `ADD A`, 0x87, class F (R170). -/
  | addA
  /-- `ADD M`, 0x86, class F (R171). -/
  | addM
  /-- `ADC B`, 0x88, class F (R172). -/
  | adcB
  /-- `ADC C`, 0x89, class F (R172). -/
  | adcC
  /-- `ADC D`, 0x8A, class F (R172). -/
  | adcD
  /-- `ADC E`, 0x8B, class F (R172). -/
  | adcE
  /-- `ADC H`, 0x8C, class F (R172). -/
  | adcH
  /-- `ADC L`, 0x8D, class F (R172). -/
  | adcL
  /-- `ADC A`, 0x8F, class F (R172). -/
  | adcA
  /-- `ADC M`, 0x8E, class F (R173). -/
  | adcM
  /-- `SUB B`, 0x90, class F (R174). -/
  | subB
  /-- `SUB C`, 0x91, class F (R174). -/
  | subC
  /-- `SUB D`, 0x92, class F (R174). -/
  | subD
  /-- `SUB E`, 0x93, class F (R174). -/
  | subE
  /-- `SUB H`, 0x94, class F (R174). -/
  | subH
  /-- `SUB L`, 0x95, class F (R174). -/
  | subL
  /-- `SUB A`, 0x97, class F (R174). -/
  | subA
  /-- `SUB M`, 0x96, class F (R175). -/
  | subM
  /-- `SBB B`, 0x98, class F (R176). -/
  | sbbB
  /-- `SBB C`, 0x99, class F (R176). -/
  | sbbC
  /-- `SBB D`, 0x9A, class F (R176). -/
  | sbbD
  /-- `SBB E`, 0x9B, class F (R176). -/
  | sbbE
  /-- `SBB H`, 0x9C, class F (R176). -/
  | sbbH
  /-- `SBB L`, 0x9D, class F (R176). -/
  | sbbL
  /-- `SBB A`, 0x9F, class F (R176). -/
  | sbbA
  /-- `SBB M`, 0x9E, class F (R177). -/
  | sbbM
  /-- `ADI d8`, 0xC6, class F (R178). -/
  | adi (d8 : Byte)
  /-- `ACI d8`, 0xCE, class F (R179). -/
  | aci (d8 : Byte)
  /-- `SUI d8`, 0xD6, class F (R180). -/
  | sui (d8 : Byte)
  /-- `SBI d8`, 0xDE, class F (R181). -/
  | sbi (d8 : Byte)
  /-- `ANA B`, 0xA0, class F (R190). -/
  | anaB
  /-- `ANA C`, 0xA1, class F (R190). -/
  | anaC
  /-- `ANA D`, 0xA2, class F (R190). -/
  | anaD
  /-- `ANA E`, 0xA3, class F (R190). -/
  | anaE
  /-- `ANA H`, 0xA4, class F (R190). -/
  | anaH
  /-- `ANA L`, 0xA5, class F (R190). -/
  | anaL
  /-- `ANA A`, 0xA7, class F (R190). -/
  | anaA
  /-- `ANA M`, 0xA6, class F (R191). -/
  | anaM
  /-- `XRA B`, 0xA8, class F (R192). -/
  | xraB
  /-- `XRA C`, 0xA9, class F (R192). -/
  | xraC
  /-- `XRA D`, 0xAA, class F (R192). -/
  | xraD
  /-- `XRA E`, 0xAB, class F (R192). -/
  | xraE
  /-- `XRA H`, 0xAC, class F (R192). -/
  | xraH
  /-- `XRA L`, 0xAD, class F (R192). -/
  | xraL
  /-- `XRA A`, 0xAF, class F (R192). -/
  | xraA
  /-- `XRA M`, 0xAE, class F (R193). -/
  | xraM
  /-- `ORA B`, 0xB0, class F (R194). -/
  | oraB
  /-- `ORA C`, 0xB1, class F (R194). -/
  | oraC
  /-- `ORA D`, 0xB2, class F (R194). -/
  | oraD
  /-- `ORA E`, 0xB3, class F (R194). -/
  | oraE
  /-- `ORA H`, 0xB4, class F (R194). -/
  | oraH
  /-- `ORA L`, 0xB5, class F (R194). -/
  | oraL
  /-- `ORA A`, 0xB7, class F (R194). -/
  | oraA
  /-- `ORA M`, 0xB6, class F (R195). -/
  | oraM
  /-- `CMP B`, 0xB8, class F (R196). -/
  | cmpB
  /-- `CMP C`, 0xB9, class F (R196). -/
  | cmpC
  /-- `CMP D`, 0xBA, class F (R196). -/
  | cmpD
  /-- `CMP E`, 0xBB, class F (R196). -/
  | cmpE
  /-- `CMP H`, 0xBC, class F (R196). -/
  | cmpH
  /-- `CMP L`, 0xBD, class F (R196). -/
  | cmpL
  /-- `CMP A`, 0xBF, class F (R196). -/
  | cmpA
  /-- `CMP M`, 0xBE, class F (R197). -/
  | cmpM
  /-- `ANI d8`, 0xE6, class F (R198). -/
  | ani (d8 : Byte)
  /-- `XRI d8`, 0xEE, class F (R199). -/
  | xri (d8 : Byte)
  /-- `ORI d8`, 0xF6, class F (R200). -/
  | ori (d8 : Byte)
  /-- `CPI d8`, 0xFE, class F (R201). -/
  | cpi (d8 : Byte)
  /-- `RLC`, 0x07, class F (R210). -/
  | rlc
  /-- `RRC`, 0x0F, class F (R211). -/
  | rrc
  /-- `RAL`, 0x17, class F (R212). -/
  | ral
  /-- `RAR`, 0x1F, class F (R213). -/
  | rar
  /-- `CMA`, 0x2F, class F (R214). -/
  | cma
  /-- `NOP`, 0x00, class F (R215). -/
  | nop
  /-- `PUSH B`, 0xC5, class F (R220). -/
  | pushB
  /-- `PUSH D`, 0xD5, class F (R220). -/
  | pushD
  /-- `PUSH H`, 0xE5, class F (R220). -/
  | pushH
  /-- `PUSH PSW`, 0xF5, class F (R221). -/
  | pushPsw
  /-- `POP B`, 0xC1, class F (R222). -/
  | popB
  /-- `POP D`, 0xD1, class F (R222). -/
  | popD
  /-- `POP H`, 0xE1, class F (R222). -/
  | popH
  /-- `POP PSW`, 0xF1, class F (R223). -/
  | popPsw
  /-- `JMP a16`, 0xC3, class F (R230). -/
  | jmp (a16 : Word)
  /-- `JNZ a16`, 0xC2, class F (R231). -/
  | jnz (a16 : Word)
  /-- `JZ a16`, 0xCA, class F (R232). -/
  | jz (a16 : Word)
  /-- `JNC a16`, 0xD2, class F (R233). -/
  | jnc (a16 : Word)
  /-- `JC a16`, 0xDA, class F (R234). -/
  | jc (a16 : Word)
  /-- `JPO a16`, 0xE2, class F (R235). -/
  | jpo (a16 : Word)
  /-- `JPE a16`, 0xEA, class F (R236). -/
  | jpe (a16 : Word)
  /-- `JP a16`, 0xF2, class F (R237). -/
  | jp (a16 : Word)
  /-- `JM a16`, 0xFA, class F (R238). -/
  | jm (a16 : Word)
  /-- `CALL a16`, 0xCD, class F (R239). -/
  | call (a16 : Word)
  /-- `RET`, 0xC9, class F (R240). -/
  | ret
  /-- `MVI B,d8`, 0x06, class X (R250). -/
  | mviB (d8 : Byte)
  /-- `MVI C,d8`, 0x0E, class X (R250). -/
  | mviC (d8 : Byte)
  /-- `MVI D,d8`, 0x16, class X (R250). -/
  | mviD (d8 : Byte)
  /-- `MVI E,d8`, 0x1E, class X (R250). -/
  | mviE (d8 : Byte)
  /-- `MVI H,d8`, 0x26, class X (R250). -/
  | mviH (d8 : Byte)
  /-- `MVI L,d8`, 0x2E, class X (R250). -/
  | mviL (d8 : Byte)
  /-- `MVI A,d8`, 0x3E, class X (R250). -/
  | mviA (d8 : Byte)
  /-- `MVI M,d8`, 0x36, class X (R251). -/
  | mviM (d8 : Byte)
  /-- `LDA a16`, 0x3A, class X (R252). -/
  | lda (a16 : Word)
  /-- `STA a16`, 0x32, class X (R253). -/
  | sta (a16 : Word)
  /-- `LHLD a16`, 0x2A, class X (R254). -/
  | lhld (a16 : Word)
  /-- `SHLD a16`, 0x22, class X (R255). -/
  | shld (a16 : Word)
  /-- `XCHG`, 0xEB, class X (R256). -/
  | xchg
  /-- `XTHL`, 0xE3, class X (R257). -/
  | xthl
  /-- `INR B`, 0x04, class X (R258). -/
  | inrB
  /-- `INR C`, 0x0C, class X (R258). -/
  | inrC
  /-- `INR D`, 0x14, class X (R258). -/
  | inrD
  /-- `INR E`, 0x1C, class X (R258). -/
  | inrE
  /-- `INR H`, 0x24, class X (R258). -/
  | inrH
  /-- `INR L`, 0x2C, class X (R258). -/
  | inrL
  /-- `INR A`, 0x3C, class X (R258). -/
  | inrA
  /-- `INR M`, 0x34, class X (R259). -/
  | inrM
  /-- `DCR B`, 0x05, class X (R260). -/
  | dcrB
  /-- `DCR C`, 0x0D, class X (R260). -/
  | dcrC
  /-- `DCR D`, 0x15, class X (R260). -/
  | dcrD
  /-- `DCR E`, 0x1D, class X (R260). -/
  | dcrE
  /-- `DCR H`, 0x25, class X (R260). -/
  | dcrH
  /-- `DCR L`, 0x2D, class X (R260). -/
  | dcrL
  /-- `DCR A`, 0x3D, class X (R260). -/
  | dcrA
  /-- `DCR M`, 0x35, class X (R261). -/
  | dcrM
  /-- `INX B`, 0x03, class X (R262). -/
  | inxB
  /-- `INX D`, 0x13, class X (R262). -/
  | inxD
  /-- `INX H`, 0x23, class X (R262). -/
  | inxH
  /-- `INX SP`, 0x33, class X (R262). -/
  | inxSp
  /-- `DCX B`, 0x0B, class X (R263). -/
  | dcxB
  /-- `DCX D`, 0x1B, class X (R263). -/
  | dcxD
  /-- `DCX H`, 0x2B, class X (R263). -/
  | dcxH
  /-- `DCX SP`, 0x3B, class X (R263). -/
  | dcxSp
  /-- `DAD B`, 0x09, class X (R264). -/
  | dadB
  /-- `DAD D`, 0x19, class X (R264). -/
  | dadD
  /-- `DAD H`, 0x29, class X (R264). -/
  | dadH
  /-- `DAD SP`, 0x39, class X (R264). -/
  | dadSp
  /-- `DAA`, 0x27, class X (R265). -/
  | daa
  /-- `STC`, 0x37, class X (R266). -/
  | stc
  /-- `CMC`, 0x3F, class X (R267). -/
  | cmc
  /-- `SPHL`, 0xF9, class X (R268). -/
  | sphl
  /-- `CNZ a16`, 0xC4, class X (R290). -/
  | cnz (a16 : Word)
  /-- `CZ a16`, 0xCC, class X (R291). -/
  | cz (a16 : Word)
  /-- `CNC a16`, 0xD4, class X (R292). -/
  | cnc (a16 : Word)
  /-- `CC a16`, 0xDC, class X (R293). -/
  | cc (a16 : Word)
  /-- `CPO a16`, 0xE4, class X (R294). -/
  | cpo (a16 : Word)
  /-- `CPE a16`, 0xEC, class X (R295). -/
  | cpe (a16 : Word)
  /-- `CP a16`, 0xF4, class X (R296). -/
  | cp (a16 : Word)
  /-- `CM a16`, 0xFC, class X (R297). -/
  | cm (a16 : Word)
  /-- `RNZ`, 0xC0, class X (R298). -/
  | rnz
  /-- `RZ`, 0xC8, class X (R299). -/
  | rz
  /-- `RNC`, 0xD0, class X (R300). -/
  | rnc
  /-- `RC`, 0xD8, class X (R301). -/
  | rc
  /-- `RPO`, 0xE0, class X (R302). -/
  | rpo
  /-- `RPE`, 0xE8, class X (R303). -/
  | rpe
  /-- `RP`, 0xF0, class X (R304). -/
  | rp
  /-- `RM`, 0xF8, class X (R305). -/
  | rm
  /-- `RST 0`, 0xC7, class X (R306). -/
  | rst0
  /-- `RST 1`, 0xCF, class X (R306). -/
  | rst1
  /-- `RST 2`, 0xD7, class X (R306). -/
  | rst2
  /-- `RST 3`, 0xDF, class X (R306). -/
  | rst3
  /-- `RST 4`, 0xE7, class X (R306). -/
  | rst4
  /-- `RST 5`, 0xEF, class X (R306). -/
  | rst5
  /-- `RST 6`, 0xF7, class X (R306). -/
  | rst6
  /-- `RST 7`, 0xFF, class X (R306). -/
  | rst7
  /-- `PCHL`, 0xE9, class X (R307). -/
  | pchl
  /-- `HLT`, 0x76, class P (R320). -/
  | hlt
  /-- `IN d8`, 0xDB, class P (R321). -/
  | inPort
  /-- `OUT d8`, 0xD3, class P (R322). -/
  | outPort
  /-- `DI`, 0xF3, class P (R323). -/
  | di
  /-- `EI`, 0xFB, class P (R324). -/
  | ei
  /-- `undocumented 0x08`, 0x08, class U (R325). -/
  | undoc08
  /-- `undocumented 0x10`, 0x10, class U (R325). -/
  | undoc10
  /-- `undocumented 0x18`, 0x18, class U (R325). -/
  | undoc18
  /-- `undocumented 0x20`, 0x20, class U (R325). -/
  | undoc20
  /-- `undocumented 0x28`, 0x28, class U (R325). -/
  | undoc28
  /-- `undocumented 0x30`, 0x30, class U (R325). -/
  | undoc30
  /-- `undocumented 0x38`, 0x38, class U (R325). -/
  | undoc38
  /-- `undocumented 0xCB`, 0xCB, class U (R325). -/
  | undocCB
  /-- `undocumented 0xD9`, 0xD9, class U (R325). -/
  | undocD9
  /-- `undocumented 0xDD`, 0xDD, class U (R325). -/
  | undocDD
  /-- `undocumented 0xED`, 0xED, class U (R325). -/
  | undocED
  /-- `undocumented 0xFD`, 0xFD, class U (R325). -/
  | undocFD
  deriving DecidableEq, Repr

end Sys2Proof
end

