-- ==== Sys2Proof/WellFormed.lean ====
section
/-! DEFINITION. Which instructions are legal. The operand bytes have no illegal value (R98) and the types of Syntax.lean
hold exactly their values, so the one thing that makes an encoding illegal is its class (R95, R96): classes P and U have
no handler in any handler set. -/

namespace Sys2Proof

/-- The four classes of opcode byte (R95). -/
inductive OpClass where
  /-- Handled; a family the document names. -/
  | f
  /-- Handled when in `HANDLER_SET`; the rest of the documented 8080 set. -/
  | x
  /-- Never handled: HLT, IN, OUT, DI, EI. -/
  | p
  /-- Never handled: the twelve undocumented bytes. -/
  | u
  deriving DecidableEq, Repr

/-- The class of an instruction (R95). -/
def Instr.opClass : Instr → OpClass
  | .movBB => .f
  | .movBC => .f
  | .movBD => .f
  | .movBE => .f
  | .movBH => .f
  | .movBL => .f
  | .movBA => .f
  | .movCB => .f
  | .movCC => .f
  | .movCD => .f
  | .movCE => .f
  | .movCH => .f
  | .movCL => .f
  | .movCA => .f
  | .movDB => .f
  | .movDC => .f
  | .movDD => .f
  | .movDE => .f
  | .movDH => .f
  | .movDL => .f
  | .movDA => .f
  | .movEB => .f
  | .movEC => .f
  | .movED => .f
  | .movEE => .f
  | .movEH => .f
  | .movEL => .f
  | .movEA => .f
  | .movHB => .f
  | .movHC => .f
  | .movHD => .f
  | .movHE => .f
  | .movHH => .f
  | .movHL => .f
  | .movHA => .f
  | .movLB => .f
  | .movLC => .f
  | .movLD => .f
  | .movLE => .f
  | .movLH => .f
  | .movLL => .f
  | .movLA => .f
  | .movAB => .f
  | .movAC => .f
  | .movAD => .f
  | .movAE => .f
  | .movAH => .f
  | .movAL => .f
  | .movAA => .f
  | .movBM => .f
  | .movCM => .f
  | .movDM => .f
  | .movEM => .f
  | .movHM => .f
  | .movLM => .f
  | .movAM => .f
  | .movMB => .f
  | .movMC => .f
  | .movMD => .f
  | .movME => .f
  | .movMH => .f
  | .movML => .f
  | .movMA => .f
  | .ldaxB => .f
  | .ldaxD => .f
  | .staxB => .f
  | .staxD => .f
  | .lxiB _ => .f
  | .lxiD _ => .f
  | .lxiH _ => .f
  | .lxiSp _ => .f
  | .addB => .f
  | .addC => .f
  | .addD => .f
  | .addE => .f
  | .addH => .f
  | .addL => .f
  | .addA => .f
  | .addM => .f
  | .adcB => .f
  | .adcC => .f
  | .adcD => .f
  | .adcE => .f
  | .adcH => .f
  | .adcL => .f
  | .adcA => .f
  | .adcM => .f
  | .subB => .f
  | .subC => .f
  | .subD => .f
  | .subE => .f
  | .subH => .f
  | .subL => .f
  | .subA => .f
  | .subM => .f
  | .sbbB => .f
  | .sbbC => .f
  | .sbbD => .f
  | .sbbE => .f
  | .sbbH => .f
  | .sbbL => .f
  | .sbbA => .f
  | .sbbM => .f
  | .adi _ => .f
  | .aci _ => .f
  | .sui _ => .f
  | .sbi _ => .f
  | .anaB => .f
  | .anaC => .f
  | .anaD => .f
  | .anaE => .f
  | .anaH => .f
  | .anaL => .f
  | .anaA => .f
  | .anaM => .f
  | .xraB => .f
  | .xraC => .f
  | .xraD => .f
  | .xraE => .f
  | .xraH => .f
  | .xraL => .f
  | .xraA => .f
  | .xraM => .f
  | .oraB => .f
  | .oraC => .f
  | .oraD => .f
  | .oraE => .f
  | .oraH => .f
  | .oraL => .f
  | .oraA => .f
  | .oraM => .f
  | .cmpB => .f
  | .cmpC => .f
  | .cmpD => .f
  | .cmpE => .f
  | .cmpH => .f
  | .cmpL => .f
  | .cmpA => .f
  | .cmpM => .f
  | .ani _ => .f
  | .xri _ => .f
  | .ori _ => .f
  | .cpi _ => .f
  | .rlc => .f
  | .rrc => .f
  | .ral => .f
  | .rar => .f
  | .cma => .f
  | .nop => .f
  | .pushB => .f
  | .pushD => .f
  | .pushH => .f
  | .pushPsw => .f
  | .popB => .f
  | .popD => .f
  | .popH => .f
  | .popPsw => .f
  | .jmp _ => .f
  | .jnz _ => .f
  | .jz _ => .f
  | .jnc _ => .f
  | .jc _ => .f
  | .jpo _ => .f
  | .jpe _ => .f
  | .jp _ => .f
  | .jm _ => .f
  | .call _ => .f
  | .ret => .f
  | .mviB _ => .x
  | .mviC _ => .x
  | .mviD _ => .x
  | .mviE _ => .x
  | .mviH _ => .x
  | .mviL _ => .x
  | .mviA _ => .x
  | .mviM _ => .x
  | .lda _ => .x
  | .sta _ => .x
  | .lhld _ => .x
  | .shld _ => .x
  | .xchg => .x
  | .xthl => .x
  | .inrB => .x
  | .inrC => .x
  | .inrD => .x
  | .inrE => .x
  | .inrH => .x
  | .inrL => .x
  | .inrA => .x
  | .inrM => .x
  | .dcrB => .x
  | .dcrC => .x
  | .dcrD => .x
  | .dcrE => .x
  | .dcrH => .x
  | .dcrL => .x
  | .dcrA => .x
  | .dcrM => .x
  | .inxB => .x
  | .inxD => .x
  | .inxH => .x
  | .inxSp => .x
  | .dcxB => .x
  | .dcxD => .x
  | .dcxH => .x
  | .dcxSp => .x
  | .dadB => .x
  | .dadD => .x
  | .dadH => .x
  | .dadSp => .x
  | .daa => .x
  | .stc => .x
  | .cmc => .x
  | .sphl => .x
  | .cnz _ => .x
  | .cz _ => .x
  | .cnc _ => .x
  | .cc _ => .x
  | .cpo _ => .x
  | .cpe _ => .x
  | .cp _ => .x
  | .cm _ => .x
  | .rnz => .x
  | .rz => .x
  | .rnc => .x
  | .rc => .x
  | .rpo => .x
  | .rpe => .x
  | .rp => .x
  | .rm => .x
  | .rst0 => .x
  | .rst1 => .x
  | .rst2 => .x
  | .rst3 => .x
  | .rst4 => .x
  | .rst5 => .x
  | .rst6 => .x
  | .rst7 => .x
  | .pchl => .x
  | .hlt => .p
  | .inPort => .p
  | .outPort => .p
  | .di => .p
  | .ei => .p
  | .undoc08 => .u
  | .undoc10 => .u
  | .undoc18 => .u
  | .undoc20 => .u
  | .undoc28 => .u
  | .undoc30 => .u
  | .undoc38 => .u
  | .undocCB => .u
  | .undocD9 => .u
  | .undocDD => .u
  | .undocED => .u
  | .undocFD => .u

/-- An instruction is legal when some handler set handles it (R96): it is of class F or X. DESIGN CHOICE,
safe (log entry 13). -/
def Instr.WellFormed (i : Instr) : Bool :=
  match i.opClass with
  | .f => true
  | .x => true
  | .p => false
  | .u => false

end Sys2Proof
end

