-- ==== Sys2Proof/Decode.lean ====
section
/-! DEFINITION. Decoding and encoding. The decoder is the map of R87, one row of sixteen cells per high digit, with the
operand lengths of R85 and the classes of R95; the encoder is written from the bit patterns of R83. That the two agree is
a statement, not a definition. -/

namespace Sys2Proof

/-! ## Byte order -/

/-- `{hi, lo} = 256*hi + lo` (00_scope 5.1). -/
def wordOf (hi lo : Byte) : Word := BitVec.ofNat 16 (256 * hi.toNat + lo.toNat)

/-- Bits 15:8 of a word. -/
def highByte (w : Word) : Byte := BitVec.ofNat 8 (w.toNat / 256)

/-- Bits 7:0 of a word. -/
def lowByte (w : Word) : Byte := BitVec.ofNat 8 (w.toNat % 256)

/-! ## Field codes -/

/-- The 3-bit register code of a register (R22). Code 6 is the memory operand M. -/
def Reg.code : Reg → BitVec 3
  | .b => 0#3
  | .c => 1#3
  | .d => 2#3
  | .e => 3#3
  | .h => 4#3
  | .l => 5#3
  | .a => 7#3

/-- The 2-bit pair code (R24). Code 3 means PSW instead of SP in PUSH and POP. -/
def Pair.code : Pair → BitVec 2
  | .bc => 0#2
  | .de => 1#2
  | .hl => 2#2
  | .sp => 3#2

/-- The 3-bit condition code (R128). -/
def Cond.code : Cond → BitVec 3
  | .nz => 0#3
  | .z => 1#3
  | .nc => 2#3
  | .c => 3#3
  | .po => 4#3
  | .pe => 5#3
  | .p => 6#3
  | .m => 7#3

/-! ## Classes and lengths -/

/-- The five class P bytes (R95). -/
def classPBytes : List Byte :=
  [0x76#8, 0xD3#8, 0xDB#8, 0xF3#8, 0xFB#8]

/-- The twelve class U bytes (R325). -/
def classUBytes : List Byte :=
  [0x08#8, 0x10#8, 0x18#8, 0x20#8, 0x28#8, 0x30#8, 0x38#8, 0xCB#8, 0xD9#8, 0xDD#8, 0xED#8, 0xFD#8]

/-- The class X bytes of `47_completion_data_arith.md` below 0x40 (R87, the cells marked with a dagger). -/
def classXLowBytes : List Byte :=
  [0x03#8, 0x04#8, 0x05#8, 0x06#8, 0x09#8, 0x0B#8, 0x0C#8, 0x0D#8, 0x0E#8, 0x13#8, 0x14#8, 0x15#8,
   0x16#8, 0x19#8, 0x1B#8, 0x1C#8, 0x1D#8, 0x1E#8, 0x22#8, 0x23#8, 0x24#8, 0x25#8, 0x26#8, 0x27#8,
   0x29#8, 0x2A#8, 0x2B#8, 0x2C#8, 0x2D#8, 0x2E#8, 0x32#8, 0x33#8, 0x34#8, 0x35#8, 0x36#8, 0x37#8,
   0x39#8, 0x3A#8, 0x3B#8, 0x3C#8, 0x3D#8, 0x3E#8, 0x3F#8]

/-- The class X bytes from 0xC0 up (R87). -/
def classXHighBytes : List Byte :=
  [0xC0#8, 0xC4#8, 0xC7#8, 0xC8#8, 0xCC#8, 0xCF#8, 0xD0#8, 0xD4#8, 0xD7#8, 0xD8#8, 0xDC#8, 0xDF#8,
   0xE0#8, 0xE3#8, 0xE4#8, 0xE7#8, 0xE8#8, 0xE9#8, 0xEB#8, 0xEC#8, 0xEF#8, 0xF0#8, 0xF4#8, 0xF7#8,
   0xF8#8, 0xF9#8, 0xFC#8, 0xFF#8]

/-- The class of an opcode byte (R95): every byte is of exactly one class. -/
def opClass (op : Byte) : OpClass :=
  if op ∈ classPBytes then .p
  else if op ∈ classUBytes then .u
  else if op ∈ classXLowBytes then .x
  else if op ∈ classXHighBytes then .x
  else .f

/-- Whether a byte has a registered handler (R9, R95). -/
def handled (hs : HandlerSet) (op : Byte) : Bool :=
  match opClass op with
  | .f => true
  | .x =>
    match hs with
    | .full => true
    | .documented => false
  | .p => false
  | .u => false

/-- The opcode bytes with one operand byte (R85). -/
def oneOperandBytes : List Byte :=
  [0xC6#8, 0xCE#8, 0xD6#8, 0xDE#8, 0xE6#8, 0xEE#8, 0xF6#8, 0xFE#8,
   0x06#8, 0x0E#8, 0x16#8, 0x1E#8, 0x26#8, 0x2E#8, 0x36#8, 0x3E#8]

/-- The opcode bytes with two operand bytes (R85). -/
def twoOperandBytes : List Byte :=
  [0x01#8, 0x11#8, 0x21#8, 0x31#8, 0xC3#8, 0xC2#8, 0xCA#8, 0xD2#8, 0xDA#8, 0xE2#8, 0xEA#8, 0xF2#8, 0xFA#8,
   0xCD#8, 0x22#8, 0x2A#8, 0x32#8, 0x3A#8, 0xC4#8, 0xCC#8, 0xD4#8, 0xDC#8, 0xE4#8, 0xEC#8, 0xF4#8, 0xFC#8]

/-- `len`, the number of operand bytes (R85). A byte of class P or U has no length; no operand byte of it is ever read
(R112), which is the 0 it gets here: DESIGN CHOICE, safe (log entry 12). -/
def operandLength (op : Byte) : Nat :=
  if op ∈ oneOperandBytes then 1
  else if op ∈ twoOperandBytes then 2
  else 0

/-! ## The opcode map (R87), one definition per row

The arguments are the first operand byte, as `d8`, and the two operand bytes, as `w` (R84, R85). -/

/-- Row 0x. -/
def mapRow0 (d8 : Byte) (w : Word) : List Instr :=
  [.nop, .lxiB w, .staxB, .inxB, .inrB, .dcrB, .mviB d8, .rlc,
   .undoc08, .dadB, .ldaxB, .dcxB, .inrC, .dcrC, .mviC d8, .rrc]

/-- Row 1x. -/
def mapRow1 (d8 : Byte) (w : Word) : List Instr :=
  [.undoc10, .lxiD w, .staxD, .inxD, .inrD, .dcrD, .mviD d8, .ral,
   .undoc18, .dadD, .ldaxD, .dcxD, .inrE, .dcrE, .mviE d8, .rar]

/-- Row 2x. -/
def mapRow2 (d8 : Byte) (w : Word) : List Instr :=
  [.undoc20, .lxiH w, .shld w, .inxH, .inrH, .dcrH, .mviH d8, .daa,
   .undoc28, .dadH, .lhld w, .dcxH, .inrL, .dcrL, .mviL d8, .cma]

/-- Row 3x. -/
def mapRow3 (d8 : Byte) (w : Word) : List Instr :=
  [.undoc30, .lxiSp w, .sta w, .inxSp, .inrM, .dcrM, .mviM d8, .stc,
   .undoc38, .dadSp, .lda w, .dcxSp, .inrA, .dcrA, .mviA d8, .cmc]

/-- Row 4x. -/
def mapRow4 : List Instr :=
  [.movBB, .movBC, .movBD, .movBE, .movBH, .movBL, .movBM, .movBA,
   .movCB, .movCC, .movCD, .movCE, .movCH, .movCL, .movCM, .movCA]

/-- Row 5x. -/
def mapRow5 : List Instr :=
  [.movDB, .movDC, .movDD, .movDE, .movDH, .movDL, .movDM, .movDA,
   .movEB, .movEC, .movED, .movEE, .movEH, .movEL, .movEM, .movEA]

/-- Row 6x. -/
def mapRow6 : List Instr :=
  [.movHB, .movHC, .movHD, .movHE, .movHH, .movHL, .movHM, .movHA,
   .movLB, .movLC, .movLD, .movLE, .movLH, .movLL, .movLM, .movLA]

/-- Row 7x. -/
def mapRow7 : List Instr :=
  [.movMB, .movMC, .movMD, .movME, .movMH, .movML, .hlt, .movMA,
   .movAB, .movAC, .movAD, .movAE, .movAH, .movAL, .movAM, .movAA]

/-- Row 8x. -/
def mapRow8 : List Instr :=
  [.addB, .addC, .addD, .addE, .addH, .addL, .addM, .addA,
   .adcB, .adcC, .adcD, .adcE, .adcH, .adcL, .adcM, .adcA]

/-- Row 9x. -/
def mapRow9 : List Instr :=
  [.subB, .subC, .subD, .subE, .subH, .subL, .subM, .subA,
   .sbbB, .sbbC, .sbbD, .sbbE, .sbbH, .sbbL, .sbbM, .sbbA]

/-- Row Ax. -/
def mapRowA : List Instr :=
  [.anaB, .anaC, .anaD, .anaE, .anaH, .anaL, .anaM, .anaA,
   .xraB, .xraC, .xraD, .xraE, .xraH, .xraL, .xraM, .xraA]

/-- Row Bx. -/
def mapRowB : List Instr :=
  [.oraB, .oraC, .oraD, .oraE, .oraH, .oraL, .oraM, .oraA,
   .cmpB, .cmpC, .cmpD, .cmpE, .cmpH, .cmpL, .cmpM, .cmpA]

/-- Row Cx. -/
def mapRowC (d8 : Byte) (w : Word) : List Instr :=
  [.rnz, .popB, .jnz w, .jmp w, .cnz w, .pushB, .adi d8, .rst0,
   .rz, .ret, .jz w, .undocCB, .cz w, .call w, .aci d8, .rst1]

/-- Row Dx. -/
def mapRowD (d8 : Byte) (w : Word) : List Instr :=
  [.rnc, .popD, .jnc w, .outPort, .cnc w, .pushD, .sui d8, .rst2,
   .rc, .undocD9, .jc w, .inPort, .cc w, .undocDD, .sbi d8, .rst3]

/-- Row Ex. -/
def mapRowE (d8 : Byte) (w : Word) : List Instr :=
  [.rpo, .popH, .jpo w, .xthl, .cpo w, .pushH, .ani d8, .rst4,
   .rpe, .pchl, .jpe w, .xchg, .cpe w, .undocED, .xri d8, .rst5]

/-- Row Fx. -/
def mapRowF (d8 : Byte) (w : Word) : List Instr :=
  [.rp, .popPsw, .jp w, .di, .cp w, .pushPsw, .ori d8, .rst6,
   .rm, .sphl, .jm w, .ei, .cm w, .undocFD, .cpi d8, .rst7]

/-- The whole map, by row: the instruction of every opcode byte, given its operand bytes. -/
def opcodeMap (d8 : Byte) (w : Word) : List (List Instr) :=
  [mapRow0 d8 w, mapRow1 d8 w, mapRow2 d8 w, mapRow3 d8 w, mapRow4, mapRow5, mapRow6, mapRow7,
   mapRow8, mapRow9, mapRowA, mapRowB, mapRowC d8 w, mapRowD d8 w, mapRowE d8 w, mapRowF d8 w]

/-- The instruction an opcode byte and its operand bytes `b1`, `b2` stand for (R85, R87): the cell in the row of the high
digit and the column of the low one. The map has 16 rows of 16 cells, so no default is ever taken. -/
def instrOf (op b1 b2 : Byte) : Instr :=
  ((opcodeMap b1 (wordOf b2 b1)).getD (op.toNat / 16) []).getD (op.toNat % 16) .nop

/-! ## The decoder -/

/-- Why a byte list is not an instruction: it ends too soon. There is no other reason (R98). -/
inductive DecodeError where
  /-- No opcode byte. -/
  | noBytes
  /-- The operand bytes of this opcode are missing. -/
  | missingOperand (opcode : Byte)
  deriving DecidableEq, Repr

/-- Read one instruction from the front of a byte list, lowest address first, and give the rest (R80, R81). -/
def decode : List Byte → Except DecodeError (Instr × List Byte)
  | [] => .error .noBytes
  | op :: bytes =>
    match operandLength op, bytes with
    | 0, rest => .ok (instrOf op 0#8 0#8, rest)
    | 1, b1 :: rest => .ok (instrOf op b1 0#8, rest)
    | 2, b1 :: b2 :: rest => .ok (instrOf op b1 b2, rest)
    | _, _ => .error (.missingOperand op)

/-! ## The encoder -/

/-- The bytes of an instruction, lowest address first: the opcode of its row in R83, then `d8`, or the low and the high
byte of `d16` or `a16` (R85, R100). -/
def encode : Instr → List Byte
  | .movBB => [0b01000000#8]
  | .movBC => [0b01000001#8]
  | .movBD => [0b01000010#8]
  | .movBE => [0b01000011#8]
  | .movBH => [0b01000100#8]
  | .movBL => [0b01000101#8]
  | .movBA => [0b01000111#8]
  | .movCB => [0b01001000#8]
  | .movCC => [0b01001001#8]
  | .movCD => [0b01001010#8]
  | .movCE => [0b01001011#8]
  | .movCH => [0b01001100#8]
  | .movCL => [0b01001101#8]
  | .movCA => [0b01001111#8]
  | .movDB => [0b01010000#8]
  | .movDC => [0b01010001#8]
  | .movDD => [0b01010010#8]
  | .movDE => [0b01010011#8]
  | .movDH => [0b01010100#8]
  | .movDL => [0b01010101#8]
  | .movDA => [0b01010111#8]
  | .movEB => [0b01011000#8]
  | .movEC => [0b01011001#8]
  | .movED => [0b01011010#8]
  | .movEE => [0b01011011#8]
  | .movEH => [0b01011100#8]
  | .movEL => [0b01011101#8]
  | .movEA => [0b01011111#8]
  | .movHB => [0b01100000#8]
  | .movHC => [0b01100001#8]
  | .movHD => [0b01100010#8]
  | .movHE => [0b01100011#8]
  | .movHH => [0b01100100#8]
  | .movHL => [0b01100101#8]
  | .movHA => [0b01100111#8]
  | .movLB => [0b01101000#8]
  | .movLC => [0b01101001#8]
  | .movLD => [0b01101010#8]
  | .movLE => [0b01101011#8]
  | .movLH => [0b01101100#8]
  | .movLL => [0b01101101#8]
  | .movLA => [0b01101111#8]
  | .movAB => [0b01111000#8]
  | .movAC => [0b01111001#8]
  | .movAD => [0b01111010#8]
  | .movAE => [0b01111011#8]
  | .movAH => [0b01111100#8]
  | .movAL => [0b01111101#8]
  | .movAA => [0b01111111#8]
  | .movBM => [0b01000110#8]
  | .movCM => [0b01001110#8]
  | .movDM => [0b01010110#8]
  | .movEM => [0b01011110#8]
  | .movHM => [0b01100110#8]
  | .movLM => [0b01101110#8]
  | .movAM => [0b01111110#8]
  | .movMB => [0b01110000#8]
  | .movMC => [0b01110001#8]
  | .movMD => [0b01110010#8]
  | .movME => [0b01110011#8]
  | .movMH => [0b01110100#8]
  | .movML => [0b01110101#8]
  | .movMA => [0b01110111#8]
  | .ldaxB => [0b00001010#8]
  | .ldaxD => [0b00011010#8]
  | .staxB => [0b00000010#8]
  | .staxD => [0b00010010#8]
  | .lxiB d16 => [0b00000001#8, lowByte d16, highByte d16]
  | .lxiD d16 => [0b00010001#8, lowByte d16, highByte d16]
  | .lxiH d16 => [0b00100001#8, lowByte d16, highByte d16]
  | .lxiSp d16 => [0b00110001#8, lowByte d16, highByte d16]
  | .addB => [0b10000000#8]
  | .addC => [0b10000001#8]
  | .addD => [0b10000010#8]
  | .addE => [0b10000011#8]
  | .addH => [0b10000100#8]
  | .addL => [0b10000101#8]
  | .addA => [0b10000111#8]
  | .addM => [0b10000110#8]
  | .adcB => [0b10001000#8]
  | .adcC => [0b10001001#8]
  | .adcD => [0b10001010#8]
  | .adcE => [0b10001011#8]
  | .adcH => [0b10001100#8]
  | .adcL => [0b10001101#8]
  | .adcA => [0b10001111#8]
  | .adcM => [0b10001110#8]
  | .subB => [0b10010000#8]
  | .subC => [0b10010001#8]
  | .subD => [0b10010010#8]
  | .subE => [0b10010011#8]
  | .subH => [0b10010100#8]
  | .subL => [0b10010101#8]
  | .subA => [0b10010111#8]
  | .subM => [0b10010110#8]
  | .sbbB => [0b10011000#8]
  | .sbbC => [0b10011001#8]
  | .sbbD => [0b10011010#8]
  | .sbbE => [0b10011011#8]
  | .sbbH => [0b10011100#8]
  | .sbbL => [0b10011101#8]
  | .sbbA => [0b10011111#8]
  | .sbbM => [0b10011110#8]
  | .adi d8 => [0b11000110#8, d8]
  | .aci d8 => [0b11001110#8, d8]
  | .sui d8 => [0b11010110#8, d8]
  | .sbi d8 => [0b11011110#8, d8]
  | .anaB => [0b10100000#8]
  | .anaC => [0b10100001#8]
  | .anaD => [0b10100010#8]
  | .anaE => [0b10100011#8]
  | .anaH => [0b10100100#8]
  | .anaL => [0b10100101#8]
  | .anaA => [0b10100111#8]
  | .anaM => [0b10100110#8]
  | .xraB => [0b10101000#8]
  | .xraC => [0b10101001#8]
  | .xraD => [0b10101010#8]
  | .xraE => [0b10101011#8]
  | .xraH => [0b10101100#8]
  | .xraL => [0b10101101#8]
  | .xraA => [0b10101111#8]
  | .xraM => [0b10101110#8]
  | .oraB => [0b10110000#8]
  | .oraC => [0b10110001#8]
  | .oraD => [0b10110010#8]
  | .oraE => [0b10110011#8]
  | .oraH => [0b10110100#8]
  | .oraL => [0b10110101#8]
  | .oraA => [0b10110111#8]
  | .oraM => [0b10110110#8]
  | .cmpB => [0b10111000#8]
  | .cmpC => [0b10111001#8]
  | .cmpD => [0b10111010#8]
  | .cmpE => [0b10111011#8]
  | .cmpH => [0b10111100#8]
  | .cmpL => [0b10111101#8]
  | .cmpA => [0b10111111#8]
  | .cmpM => [0b10111110#8]
  | .ani d8 => [0b11100110#8, d8]
  | .xri d8 => [0b11101110#8, d8]
  | .ori d8 => [0b11110110#8, d8]
  | .cpi d8 => [0b11111110#8, d8]
  | .rlc => [0b00000111#8]
  | .rrc => [0b00001111#8]
  | .ral => [0b00010111#8]
  | .rar => [0b00011111#8]
  | .cma => [0b00101111#8]
  | .nop => [0b00000000#8]
  | .pushB => [0b11000101#8]
  | .pushD => [0b11010101#8]
  | .pushH => [0b11100101#8]
  | .pushPsw => [0b11110101#8]
  | .popB => [0b11000001#8]
  | .popD => [0b11010001#8]
  | .popH => [0b11100001#8]
  | .popPsw => [0b11110001#8]
  | .jmp a16 => [0b11000011#8, lowByte a16, highByte a16]
  | .jnz a16 => [0b11000010#8, lowByte a16, highByte a16]
  | .jz a16 => [0b11001010#8, lowByte a16, highByte a16]
  | .jnc a16 => [0b11010010#8, lowByte a16, highByte a16]
  | .jc a16 => [0b11011010#8, lowByte a16, highByte a16]
  | .jpo a16 => [0b11100010#8, lowByte a16, highByte a16]
  | .jpe a16 => [0b11101010#8, lowByte a16, highByte a16]
  | .jp a16 => [0b11110010#8, lowByte a16, highByte a16]
  | .jm a16 => [0b11111010#8, lowByte a16, highByte a16]
  | .call a16 => [0b11001101#8, lowByte a16, highByte a16]
  | .ret => [0b11001001#8]
  | .mviB d8 => [0b00000110#8, d8]
  | .mviC d8 => [0b00001110#8, d8]
  | .mviD d8 => [0b00010110#8, d8]
  | .mviE d8 => [0b00011110#8, d8]
  | .mviH d8 => [0b00100110#8, d8]
  | .mviL d8 => [0b00101110#8, d8]
  | .mviA d8 => [0b00111110#8, d8]
  | .mviM d8 => [0b00110110#8, d8]
  | .lda a16 => [0b00111010#8, lowByte a16, highByte a16]
  | .sta a16 => [0b00110010#8, lowByte a16, highByte a16]
  | .lhld a16 => [0b00101010#8, lowByte a16, highByte a16]
  | .shld a16 => [0b00100010#8, lowByte a16, highByte a16]
  | .xchg => [0b11101011#8]
  | .xthl => [0b11100011#8]
  | .inrB => [0b00000100#8]
  | .inrC => [0b00001100#8]
  | .inrD => [0b00010100#8]
  | .inrE => [0b00011100#8]
  | .inrH => [0b00100100#8]
  | .inrL => [0b00101100#8]
  | .inrA => [0b00111100#8]
  | .inrM => [0b00110100#8]
  | .dcrB => [0b00000101#8]
  | .dcrC => [0b00001101#8]
  | .dcrD => [0b00010101#8]
  | .dcrE => [0b00011101#8]
  | .dcrH => [0b00100101#8]
  | .dcrL => [0b00101101#8]
  | .dcrA => [0b00111101#8]
  | .dcrM => [0b00110101#8]
  | .inxB => [0b00000011#8]
  | .inxD => [0b00010011#8]
  | .inxH => [0b00100011#8]
  | .inxSp => [0b00110011#8]
  | .dcxB => [0b00001011#8]
  | .dcxD => [0b00011011#8]
  | .dcxH => [0b00101011#8]
  | .dcxSp => [0b00111011#8]
  | .dadB => [0b00001001#8]
  | .dadD => [0b00011001#8]
  | .dadH => [0b00101001#8]
  | .dadSp => [0b00111001#8]
  | .daa => [0b00100111#8]
  | .stc => [0b00110111#8]
  | .cmc => [0b00111111#8]
  | .sphl => [0b11111001#8]
  | .cnz a16 => [0b11000100#8, lowByte a16, highByte a16]
  | .cz a16 => [0b11001100#8, lowByte a16, highByte a16]
  | .cnc a16 => [0b11010100#8, lowByte a16, highByte a16]
  | .cc a16 => [0b11011100#8, lowByte a16, highByte a16]
  | .cpo a16 => [0b11100100#8, lowByte a16, highByte a16]
  | .cpe a16 => [0b11101100#8, lowByte a16, highByte a16]
  | .cp a16 => [0b11110100#8, lowByte a16, highByte a16]
  | .cm a16 => [0b11111100#8, lowByte a16, highByte a16]
  | .rnz => [0b11000000#8]
  | .rz => [0b11001000#8]
  | .rnc => [0b11010000#8]
  | .rc => [0b11011000#8]
  | .rpo => [0b11100000#8]
  | .rpe => [0b11101000#8]
  | .rp => [0b11110000#8]
  | .rm => [0b11111000#8]
  | .rst0 => [0b11000111#8]
  | .rst1 => [0b11001111#8]
  | .rst2 => [0b11010111#8]
  | .rst3 => [0b11011111#8]
  | .rst4 => [0b11100111#8]
  | .rst5 => [0b11101111#8]
  | .rst6 => [0b11110111#8]
  | .rst7 => [0b11111111#8]
  | .pchl => [0b11101001#8]
  | .hlt => [0b01110110#8]
  | .inPort => [0b11011011#8]
  | .outPort => [0b11010011#8]
  | .di => [0b11110011#8]
  | .ei => [0b11111011#8]
  | .undoc08 => [0b00001000#8]
  | .undoc10 => [0b00010000#8]
  | .undoc18 => [0b00011000#8]
  | .undoc20 => [0b00100000#8]
  | .undoc28 => [0b00101000#8]
  | .undoc30 => [0b00110000#8]
  | .undoc38 => [0b00111000#8]
  | .undocCB => [0b11001011#8]
  | .undocD9 => [0b11011001#8]
  | .undocDD => [0b11011101#8]
  | .undocED => [0b11101101#8]
  | .undocFD => [0b11111101#8]

/-- The opcode byte of an instruction. -/
def Instr.opcode (i : Instr) : Byte := (encode i).headD 0#8

/-- The longest instruction has three bytes (R80). -/
def longestInstr : Nat := 3

/-- The bytes of a number laid out as memory holds them: bits 7..0 first (R56). -/
def tableBytes (nbits w : Nat) : List Byte :=
  (List.range longestInstr).map fun k => BitVec.ofNat 8 (w % 2 ^ nbits / 2 ^ (8 * k))

/-- What the decoder reads from the table's numbering of an instruction's bits. -/
def decodeTableWord (nbits w : Nat) : Option Instr :=
  match decode (tableBytes nbits w) with
  | .ok (i, _) => some i
  | .error _ => none

end Sys2Proof
end

