-- ==== Sys2Proof/Machine/State.lean ====
section
/-! DEFINITION. Everything the spec gives the machine, as plain data (10_state.md): the seven byte registers, SP, PC, the
five flags, Memory, the run state and the error record, and beside them the configuration inputs of the run (R39), which no
step changes. The reasons a step can stop, and the state after reset. -/

namespace Sys2Proof.Machine

/-- The seven byte registers (R20). The pairs BC, DE, HL are no state of their own (R23). -/
structure Regs where
  /-- The accumulator (R21). -/
  a : Byte
  b : Byte
  c : Byte
  d : Byte
  e : Byte
  h : Byte
  l : Byte
  deriving DecidableEq, Repr

/-- The five condition flags, five independent bits (R30): Zero, Sign, Parity, Carry, AuxiliaryCarry. -/
structure Flags where
  z : Bool
  s : Bool
  p : Bool
  cy : Bool
  ac : Bool
  deriving DecidableEq, Repr

/-- Memory as plain data: (address, byte) pairs, addresses strictly rising, no entry equal to `Config.unlistedByte`
(`Memory.wf`, Ops.lean). An address that is not listed holds `Config.unlistedByte`. -/
abbrev Memory := List Host.Cell

/-- The run state `RS` between steps (R34). -/
inductive RunState where
  /-- About to fetch. -/
  | running
  /-- PC reached the end of the program: terminal (R116, R117). -/
  | halt
  /-- A fatal error: terminal (R117, R345). -/
  | error
  deriving DecidableEq, Repr

/-- The two kinds of error the core can record (R340). `LoadFailure` is the loader's and no state of the core (R343). -/
inductive ErrKind where
  | unimplementedOpcode
  | outOfBoundsAccess
  deriving DecidableEq, Repr

/-- The error record `ERR` (R35). -/
structure ErrRecord where
  kind : ErrKind
  /-- The byte fetched at `pc`. -/
  opcode : Byte
  /-- The address of the opcode byte of the instruction that failed. -/
  pc : Word
  /-- For `outOfBoundsAccess` the mathematical integer address (R342), so it can be -1 or 0x10000. -/
  addr : Option Int
  deriving DecidableEq, Repr

/-- What an instruction raises (00_scope 5.3): the kind and, for an access out of bounds, its integer address. -/
inductive Raise where
  | unimplementedOpcode
  | outOfBoundsAccess (addr : Int)
  deriving DecidableEq, Repr

/-- The complete state (10_state.md) and the configuration inputs of the run (R39). -/
structure State where
  regs : Regs
  /-- The stack pointer (R28). -/
  sp : Word
  /-- The program counter (R25): between steps, the address of the next opcode byte. -/
  pc : Word
  flags : Flags
  mem : Memory
  /-- `RS` (R34). -/
  runState : RunState
  /-- `ERR` (R35): `none` when no error is recorded. -/
  err : Option ErrRecord
  /-- `MEM_SIZE`, `PROGRAM_END`, `HANDLER_SET` (R7 to R9): constants of the run, kept here so that the step can read
  them: DESIGN CHOICE, safe (log entry 5). -/
  cfg : RunConfig
  deriving DecidableEq, Repr

/-- Why `step` gives no next state. All of these say that the spec has no step there; an error of the core is not one of
them: it is a next state with `RS = ERROR` (R110). -/
inductive Fault where
  /-- Raised by `step` when `RS` is HALT: the core has no step (R117). Safe: the spec gives none either. -/
  | halted
  /-- Raised by `step` when `RS` is ERROR: the core has no step (R117). Safe: the spec gives none either. -/
  | errorStopped
  /-- Raised by `step` when the opcode fetch itself is out of bounds: R347 calls the case unreachable and `ERR.opcode`
  would have no value; no state that meets `State.Inv` is in it: DEDUCED, safe (log entry 7). Safe: the machine stops. -/
  | opcodeFetchOutOfBounds
  deriving DecidableEq, Repr

/-- Why an operation has no meaning. -/
inductive Refusal where
  /-- Raised by `exec` for an instruction without a meaning. Safe: nothing is claimed of it. -/
  | notModelled (mnemonic : String)
  /-- Raised by `boot` for parameters a model must not accept (I11): `MEM_SIZE` out of range or an image longer than
  Memory. Safe: there is no run (R373). -/
  | badConfiguration
  deriving DecidableEq, Repr

/-- What a step answers. -/
abbrev Answer := Host.Outcome State Fault Refusal

/-- The machine right after reset with nothing loaded (R42, R370): PC is 0, no error is recorded, `PROGRAM_END` is 0 and
so `RS` is HALT. The registers, SP and the flags hold the values Config.lean names (log entries 2, 3, 4): the spec gives
none, and `boot` (Ops.lean) is the reset for every program and every initial value. -/
def State.reset : State where
  regs :=
    { a := Config.resetByte, b := Config.resetByte, c := Config.resetByte, d := Config.resetByte,
      e := Config.resetByte, h := Config.resetByte, l := Config.resetByte }
  sp := Config.resetSp
  pc := 0x0000#16
  flags :=
    { z := Config.resetFlag, s := Config.resetFlag, p := Config.resetFlag, cy := Config.resetFlag,
      ac := Config.resetFlag }
  mem := []
  runState := .halt
  err := none
  cfg := { memSize := Config.memSize, programEnd := 0, handlers := Config.handlers }

end Sys2Proof.Machine
end

