-- ==== Sys2Proof/Machine/Flags.lean ====
section
/-! DEFINITION. The flag functions and the arithmetic of the core (40_pipeline_flags_alu.md sections 2 to 4), the packed
flag byte (R32, R33), the rotates (R210 to R213) and the decimal adjustment (R265). Sums and differences are computed on
integers and narrowed at the end, as the rules write them. -/

namespace Sys2Proof.Machine

/-! ## Zero, Sign, Parity (R120 to R122) -/

/-- The number of bits set in a byte (00_scope 5.1). -/
def popcount (r : Byte) : Nat := (List.range 8).countP fun k => r.getLsbD k

/-- `parity8(r)`: the number of set bits is even (R121). -/
def parity8 (r : Byte) : Bool := popcount r % 2 == 0

/-- `SetZSP(r)` (R122): Carry and AuxiliaryCarry keep their values. -/
def Flags.setZSP (f : Flags) (r : Byte) : Flags :=
  { f with z := r == 0#8, s := r.getLsbD 7, p := parity8 r }

/-! ## Adder, subtractor, logic unit (R124 to R126) -/

/-- A byte result with the two carries. -/
structure AluOut where
  r : Byte
  cy : Bool
  ac : Bool
  deriving DecidableEq, Repr

/-- Bits 3:0 of a byte, as an integer. -/
def lowNibble (v : Byte) : Nat := v.toNat % 16

/-- Bits 7:4 of a byte, as an integer. -/
def highNibble (v : Byte) : Nat := v.toNat / 16

/-- `Add8(a, b, cin)` (R124). That the carry-in takes part in both carries: DEDUCED, unsafe (log entry 14). -/
def add8 (a b : Byte) (cin : Bool) : AluOut :=
  let w := a.toNat + b.toNat + cin.toNat
  { r := BitVec.ofNat 8 w
    cy := decide (w > 0xFF)
    ac := decide (lowNibble a + lowNibble b + cin.toNat > 0x0F) }

/-- `Sub8(a, b, bin)` (R125): both carries are 1 when a borrow occurs. -/
def sub8 (a b : Byte) (bin : Bool) : AluOut :=
  { r := BitVec.ofInt 8 ((a.toNat : Int) - b.toNat - bin.toNat)
    cy := decide (a.toNat < b.toNat + bin.toNat)
    ac := decide (lowNibble a < lowNibble b + bin.toNat) }

/-- The AND of the logic unit (R126): AuxiliaryCarry is the OR of the two bit-3 values. -/
def and8 (a b : Byte) : AluOut := { r := a &&& b, cy := false, ac := a.getLsbD 3 || b.getLsbD 3 }

/-- The exclusive OR of the logic unit (R126). -/
def xor8 (a b : Byte) : AluOut := { r := a ^^^ b, cy := false, ac := false }

/-- The OR of the logic unit (R126). -/
def or8 (a b : Byte) : AluOut := { r := a ||| b, cy := false, ac := false }

/-- The flags of an accumulator operation: all five, `Z S P` from the 8-bit result (R123). -/
def Flags.ofAlu (f : Flags) (o : AluOut) : Flags := { f.setZSP o.r with cy := o.cy, ac := o.ac }

/-- The flags of an increment or a decrement: Carry keeps its value (R258, R260). -/
def Flags.ofCount (f : Flags) (o : AluOut) : Flags := { f.setZSP o.r with ac := o.ac }

/-- The flags of a compare (R127): AuxiliaryCarry keeps its value. -/
def Flags.ofCompare (f : Flags) (o : AluOut) : Flags := { f.setZSP o.r with cy := o.cy }

/-! ## Rotates (R210 to R213): the new accumulator and the new Carry -/

/-- RLC: `{A[6:0], A[7]}`. -/
def rotateLeft (a : Byte) : Byte × Bool := (a.extractLsb' 0 7 ++ a.extractLsb' 7 1, a.getLsbD 7)

/-- RRC: `{A[0], A[7:1]}`. -/
def rotateRight (a : Byte) : Byte × Bool := (a.extractLsb' 0 1 ++ a.extractLsb' 1 7, a.getLsbD 0)

/-- RAL: `{A[6:0], CY}`. -/
def rotateLeftCarry (a : Byte) (cy : Bool) : Byte × Bool :=
  (a.extractLsb' 0 7 ++ BitVec.ofBool cy, a.getLsbD 7)

/-- RAR: `{CY, A[7:1]}`. -/
def rotateRightCarry (a : Byte) (cy : Bool) : Byte × Bool :=
  (BitVec.ofBool cy ++ a.extractLsb' 1 7, a.getLsbD 0)

/-! ## Decimal adjustment (R265) -/

/-- Whether DAA corrects the low digit. -/
def daaLow (a : Byte) (ac : Bool) : Bool := ac || decide (lowNibble a > 9)

/-- Whether DAA corrects the high digit. -/
def daaHigh (a : Byte) (cy : Bool) : Bool :=
  cy || decide (highNibble a > 9) || (decide (highNibble a ≥ 9) && decide (lowNibble a > 9))

/-- The correction DAA adds. -/
def daaCorrection (a : Byte) (cy ac : Bool) : Byte :=
  BitVec.ofNat 8 ((if daaLow a ac then 0x06 else 0) + (if daaHigh a cy then 0x60 else 0))

/-- DAA: the correcting addition, with Carry set by the high correction and otherwise kept. -/
def daa8 (a : Byte) (cy ac : Bool) : AluOut :=
  { add8 a (daaCorrection a cy ac) false with cy := cy || daaHigh a cy }

/-! ## The packed flag byte (R32, R33) -/

/-- `FLAGBYTE` (R32). -/
def Flags.pack (f : Flags) : Byte :=
  BitVec.ofNat 8
    (128 * f.s.toNat + 64 * f.z.toNat + 16 * f.ac.toNat + 4 * f.p.toNat + 2 + f.cy.toNat)

/-- The flags of a byte (R33): bits 5, 3 and 1 are ignored. -/
def Flags.unpack (v : Byte) : Flags :=
  { s := v.getLsbD 7, z := v.getLsbD 6, ac := v.getLsbD 4, p := v.getLsbD 2, cy := v.getLsbD 0 }

/-! ## Conditions (R128) -/

/-- `cond(c)` on the flags at the start of the step. -/
def condHolds (cond : Cond) (f : Flags) : Bool :=
  match cond with
  | .nz => !f.z
  | .z => f.z
  | .nc => !f.cy
  | .c => f.cy
  | .po => !f.p
  | .pe => f.p
  | .p => !f.s
  | .m => f.s

end Sys2Proof.Machine
end

