-- ==== Sys2Proof/Machine/Ops.lean ====
section
/-! DEFINITION. The named operations every meaning is made of: Memory and its bounds (20_memory.md), the stack (R130, R131),
raising an error (R345), the end of a step (R115, R116), the frame of a handler (R112 to R114) and reset with a loaded
program (R370, R373). Reading or writing an address never wraps: addresses are integers (R53). -/

namespace Sys2Proof.Machine

/-! ## Memory as data -/

/-- The byte at an address: the listed one, else what an unlisted address holds. -/
def Memory.read : Memory → Nat → Byte
  | [], _ => Config.unlistedByte
  | (k, v) :: m, a => if a = k then v else Memory.read m a

/-- List a byte at an address, in the place of the address's order. -/
def Memory.insert : Memory → Nat → Byte → Memory
  | [], a, v => [(a, v)]
  | (k, w) :: m, a, v =>
    if a < k then (a, v) :: (k, w) :: m
    else if a = k then (a, v) :: m
    else (k, w) :: Memory.insert m a v

/-- Unlist an address. -/
def Memory.erase : Memory → Nat → Memory
  | [], _ => []
  | (k, w) :: m, a => if a = k then Memory.erase m a else (k, w) :: Memory.erase m a

/-- Set the byte at an address, keeping the canonical form: the entry goes when the byte is the unlisted one. -/
def Memory.write (m : Memory) (a : Nat) (v : Byte) : Memory :=
  if v = Config.unlistedByte then m.erase a else m.insert a v

/-- The canonical form: addresses strictly rising, no entry equal to the unlisted byte. -/
def Memory.wf : Memory → Bool
  | [] => true
  | (k, v) :: m => decide (v ≠ Config.unlistedByte) && m.all (fun c => decide (k < c.1)) && Memory.wf m

/-- No entry lies outside `[0, size)`. -/
def Memory.within (m : Memory) (size : Nat) : Bool := m.all fun c => decide (c.1 < size)

/-- Set the bytes of a list at rising addresses from `a`, leaving out those at or beyond `size`. -/
def Memory.place (size : Nat) : Memory → Nat → List Byte → Memory
  | m, _, [] => m
  | m, a, v :: vs => Memory.place size (if a < size then m.write a v else m) (a + 1) vs

/-- The memory with the given cells, the first one of an address counting, those at or beyond `size` left out. -/
def Memory.ofCells (size : Nat) : List Host.Cell → Memory
  | [] => []
  | (a, v) :: cs => if a < size then (Memory.ofCells size cs).write a v else Memory.ofCells size cs

/-! ## Bounded access (R52 to R58). That the order of accesses shows only in the address an error reports: DEDUCED, safe
(log entry 15). -/

/-- The addresses of Memory: 0 to `MEM_SIZE - 1` (R50). -/
abbrev State.inBounds (s : State) (addr : Int) : Prop := 0 ≤ addr ∧ addr < (s.cfg.memSize : Int)

/-- `MemRead(addr, 1)` (R54). -/
def memRead (s : State) (addr : Int) : Except Raise Byte :=
  if s.inBounds addr then .ok (s.mem.read addr.toNat) else .error (.outOfBoundsAccess addr)

/-- `MemWrite(addr, 1, v)` (R55). -/
def memWrite (s : State) (addr : Int) (v : Byte) : Except Raise State :=
  if s.inBounds addr then .ok { s with mem := s.mem.write addr.toNat v }
  else .error (.outOfBoundsAccess addr)

/-- `MemRead(addr, 2)` (R57): the low byte first, at the lower address. -/
def memRead16 (s : State) (addr : Int) : Except Raise Word :=
  match memRead s addr with
  | .error r => .error r
  | .ok lo =>
    match memRead s (addr + 1) with
    | .error r => .error r
    | .ok hi => .ok (wordOf hi lo)

/-- `MemWrite(addr, 2, v)` (R58): both addresses are tested before the first write. -/
def memWrite16 (s : State) (addr : Int) (v : Word) : Except Raise State :=
  if s.inBounds addr then
    if s.inBounds (addr + 1) then
      .ok { s with mem := (s.mem.write addr.toNat (lowByte v)).write (addr + 1).toNat (highByte v) }
    else .error (.outOfBoundsAccess (addr + 1))
  else .error (.outOfBoundsAccess addr)

/-! ## The stack (R130, R131) -/

/-- `Push16(v)` (R130): `SP - 1` is tested before `SP - 2`, both before the first write; the high byte is written first. -/
def push16 (s : State) (v : Word) : Except Raise State :=
  let sp : Int := s.sp.toNat
  if s.inBounds (sp - 1) then
    if s.inBounds (sp - 2) then
      .ok { s with
        mem := (s.mem.write (sp - 1).toNat (highByte v)).write (sp - 2).toNat (lowByte v)
        sp := s.sp - 2#16 }
    else .error (.outOfBoundsAccess (sp - 2))
  else .error (.outOfBoundsAccess (sp - 1))

/-- `Pop16()` (R131): the value at `SP` and the state with `SP` two higher, reduced to 16 bits (R29). -/
def pop16 (s : State) : Except Raise (Word × State) :=
  match memRead16 s s.sp.toNat with
  | .error r => .error r
  | .ok v => .ok (v, { s with sp := s.sp + 2#16 })

/-! ## Raising an error (R345) -/

/-- The kind of what is raised. -/
def Raise.kind : Raise → ErrKind
  | .unimplementedOpcode => .unimplementedOpcode
  | .outOfBoundsAccess _ => .outOfBoundsAccess

/-- The address that is recorded: only an access out of bounds has one (R35). -/
def Raise.addr : Raise → Option Int
  | .unimplementedOpcode => none
  | .outOfBoundsAccess a => some a

/-- `raise K(info)` (R345): `RS` and `ERR` are written, and nothing else; PC is not advanced. `s` is the state at the start
of the step, so every change the step has made is discarded (R346). -/
def State.raise (s : State) (op : Byte) (r : Raise) : State :=
  { s with
    runState := .error
    err := some { kind := r.kind, opcode := op, pc := s.pc, addr := r.addr } }

/-! ## The end of a step and the frame of a handler -/

/-- `npc`, the fall-through next PC: an integer, not reduced (R113). -/
def fallThrough (op : Byte) (s : State) : Nat := s.pc.toNat + 1 + operandLength op

/-- The return address a call pushes: `npc[15:0]` (R239). -/
def returnAddress (op : Byte) (s : State) : Word := BitVec.ofNat 16 (fallThrough op s)

/-- ADVANCE and the halt test (R115, R116): PC takes the low 16 bits, the integer is tested against `PROGRAM_END`. -/
def State.advance (t : State) (npc : Nat) : State :=
  { t with
    pc := BitVec.ofNat 16 npc
    runState := if t.cfg.programEnd ≤ npc then .halt else t.runState }

/-- What a handler leaves (R114): the state, and a target when it wrote `pc <- t`. -/
structure Handled where
  state : State
  target : Option Word

/-- The handler leaves the fall-through PC untouched. -/
def Handled.stay (t : State) : Handled := { state := t, target := none }

/-- The handler wrote `pc <- target`. -/
def Handled.goto (t : State) (target : Word) : Handled := { state := t, target := some target }

/-- EXECUTE and ADVANCE for the opcode `op` (R112, R114 to R116). A byte without a handler gets the designated error
handler; a handler that raises leaves the start-of-step state `s` with the error (R345, R346). -/
def runHandler (op : Byte) (s : State) (body : Except Raise Handled) : Answer :=
  if handled s.cfg.handlers op then
    match body with
    | .error r => .next (s.raise op r)
    | .ok h =>
      match h.target with
      | none => .next (h.state.advance (fallThrough op s))
      | some target => .next (h.state.advance target.toNat)
  else .next (s.raise op .unimplementedOpcode)

/-! ## Reset with a loaded program (R370, R373) -/

/-- `INIT_STATE` (R11): any value of each. -/
structure InitState where
  regs : Regs
  sp : Word
  flags : Flags
  deriving DecidableEq, Repr

/-- The loader and reset: the image at address 0, `PROGRAM_END` its length, the rest of Memory from `rest` (`INIT_MEM`,
R10), the registers from `init`. Refused where the loader's duties are not met (R373, I11): DEDUCED, safe (log entry 11).
It is the only reset there is: DEDUCED, safe (log entry 10). -/
def boot (memSize : Nat) (handlers : HandlerSet) (image : List Byte) (rest : List Host.Cell) (init : InitState) :
    Answer :=
  let cfg : RunConfig := { memSize := memSize, programEnd := image.length, handlers := handlers }
  if cfg.valid then
    .next
      { regs := init.regs
        sp := init.sp
        pc := 0x0000#16
        flags := init.flags
        mem := Memory.place memSize (Memory.ofCells memSize rest) 0 image
        runState := if image.length = 0 then .halt else .running
        err := none
        cfg := cfg }
  else .refused .badConfiguration

end Sys2Proof.Machine
end

