-- ==== Sys2Proof/Machine/Operands.lean ====
section
/-! DEFINITION. Every operand form of R86: registers, pairs, the byte operand of the accumulator groups (R129), and the
flags+accumulator pair of the stack (R221, R223). -/

namespace Sys2Proof.Machine

/-- `R[c]` (R20, R22). -/
def Regs.get (g : Regs) : Reg → Byte
  | .a => g.a
  | .b => g.b
  | .c => g.c
  | .d => g.d
  | .e => g.e
  | .h => g.h
  | .l => g.l

/-- `R[c] <- v`. -/
def Regs.set (g : Regs) (r : Reg) (v : Byte) : Regs :=
  match r with
  | .a => { g with a := v }
  | .b => { g with b := v }
  | .c => { g with c := v }
  | .d => { g with d := v }
  | .e => { g with e := v }
  | .h => { g with h := v }
  | .l => { g with l := v }

/-- Read a byte register. -/
def State.reg (s : State) (r : Reg) : Byte := s.regs.get r

/-- Write a byte register. -/
def State.setReg (s : State) (r : Reg) (v : Byte) : State := { s with regs := s.regs.set r v }

/-- Write the accumulator and all the flags. -/
def State.setAcc (s : State) (v : Byte) (f : Flags) : State :=
  { s with regs := { s.regs with a := v }, flags := f }

/-- Write the flags. -/
def State.setFlags (s : State) (f : Flags) : State := { s with flags := f }

/-- `RP[p]` (R23, R24). -/
def State.pair (s : State) : Pair → Word
  | .bc => wordOf s.regs.b s.regs.c
  | .de => wordOf s.regs.d s.regs.e
  | .hl => wordOf s.regs.h s.regs.l
  | .sp => s.sp

/-- `RP[p] <- v`: the high register takes bits 15:8, the low register bits 7:0 (R23). -/
def State.setPair (s : State) (p : Pair) (v : Word) : State :=
  match p with
  | .bc => { s with regs := { s.regs with b := highByte v, c := lowByte v } }
  | .de => { s with regs := { s.regs with d := highByte v, e := lowByte v } }
  | .hl => { s with regs := { s.regs with h := highByte v, l := lowByte v } }
  | .sp => { s with sp := v }

/-- The address in a pair, as an integer (R53). -/
def State.pairAddr (s : State) (p : Pair) : Int := (s.pair p).toNat

/-- The address of the memory operand M: HL at the start of the step (R129). -/
def State.addrM (s : State) : Int := s.pairAddr .hl

/-- `PSW = {A, FLAGBYTE}` (R24, R32). -/
def State.psw (s : State) : Word := wordOf s.regs.a s.flags.pack

/-- `PSW <- v` (R223). -/
def State.setPsw (s : State) (v : Word) : State := s.setAcc (highByte v) (Flags.unpack (lowByte v))

/-- The right operand of the accumulator groups (R86, R129). -/
inductive Src where
  | reg (r : Reg)
  /-- Register code 6: the byte at HL. -/
  | mem
  | imm (d8 : Byte)
  deriving DecidableEq, Repr

/-- `Src(code)` (R129), and the immediate (R84). -/
def Src.value (s : State) : Src → Except Raise Byte
  | .reg r => .ok (s.reg r)
  | .mem => memRead s s.addrM
  | .imm d8 => .ok d8

end Sys2Proof.Machine
end

