-- ==== Sys2Proof/Machine/Arithmetic.lean ====
section
/-! DEFINITION. Arithmetic on the accumulator: ADD, ADC, SUB, SBB and their immediate forms (42_arithmetic.md, R170 to R181). -/

namespace Sys2Proof.Machine

/-! ## Shared operations -/

/-- An accumulator operation: the result goes to A and all five flags are written (42_arithmetic.md, common part). `f` is
the operation on the right operand. -/
def accumulate (op : Byte) (src : Src) (f : Byte → AluOut) (s : State) : Answer :=
  runHandler op s ((src.value s).map fun v => .stay (s.setAcc (f v).r (s.flags.ofAlu (f v))))

/-- ADD: `Add8(A, v, 0)` (R170, R171, R178). -/
def addSrc (op : Byte) (src : Src) (s : State) : Answer :=
  accumulate op src (fun v => add8 s.regs.a v false) s

/-- ADC: `Add8(A, v, CY)` (R172, R173, R179). -/
def adcSrc (op : Byte) (src : Src) (s : State) : Answer :=
  accumulate op src (fun v => add8 s.regs.a v s.flags.cy) s

/-- SUB: `Sub8(A, v, 0)` (R174, R175, R180). -/
def subSrc (op : Byte) (src : Src) (s : State) : Answer :=
  accumulate op src (fun v => sub8 s.regs.a v false) s

/-- SBB: `Sub8(A, v, CY)` (R176, R177, R181). -/
def sbbSrc (op : Byte) (src : Src) (s : State) : Answer :=
  accumulate op src (fun v => sub8 s.regs.a v s.flags.cy) s

/-! ## The meanings, one per opcode byte -/

/-- `ADD B` (R170). -/
def execAddB (s : State) : Answer := addSrc 0x80#8 (.reg .b) s

/-- `ADD C` (R170). -/
def execAddC (s : State) : Answer := addSrc 0x81#8 (.reg .c) s

/-- `ADD D` (R170). -/
def execAddD (s : State) : Answer := addSrc 0x82#8 (.reg .d) s

/-- `ADD E` (R170). -/
def execAddE (s : State) : Answer := addSrc 0x83#8 (.reg .e) s

/-- `ADD H` (R170). -/
def execAddH (s : State) : Answer := addSrc 0x84#8 (.reg .h) s

/-- `ADD L` (R170). -/
def execAddL (s : State) : Answer := addSrc 0x85#8 (.reg .l) s

/-- `ADD A` (R170). -/
def execAddA (s : State) : Answer := addSrc 0x87#8 (.reg .a) s

/-- `ADD M` (R171). -/
def execAddM (s : State) : Answer := addSrc 0x86#8 .mem s

/-- `ADC B` (R172). -/
def execAdcB (s : State) : Answer := adcSrc 0x88#8 (.reg .b) s

/-- `ADC C` (R172). -/
def execAdcC (s : State) : Answer := adcSrc 0x89#8 (.reg .c) s

/-- `ADC D` (R172). -/
def execAdcD (s : State) : Answer := adcSrc 0x8A#8 (.reg .d) s

/-- `ADC E` (R172). -/
def execAdcE (s : State) : Answer := adcSrc 0x8B#8 (.reg .e) s

/-- `ADC H` (R172). -/
def execAdcH (s : State) : Answer := adcSrc 0x8C#8 (.reg .h) s

/-- `ADC L` (R172). -/
def execAdcL (s : State) : Answer := adcSrc 0x8D#8 (.reg .l) s

/-- `ADC A` (R172). -/
def execAdcA (s : State) : Answer := adcSrc 0x8F#8 (.reg .a) s

/-- `ADC M` (R173). -/
def execAdcM (s : State) : Answer := adcSrc 0x8E#8 .mem s

/-- `SUB B` (R174). -/
def execSubB (s : State) : Answer := subSrc 0x90#8 (.reg .b) s

/-- `SUB C` (R174). -/
def execSubC (s : State) : Answer := subSrc 0x91#8 (.reg .c) s

/-- `SUB D` (R174). -/
def execSubD (s : State) : Answer := subSrc 0x92#8 (.reg .d) s

/-- `SUB E` (R174). -/
def execSubE (s : State) : Answer := subSrc 0x93#8 (.reg .e) s

/-- `SUB H` (R174). -/
def execSubH (s : State) : Answer := subSrc 0x94#8 (.reg .h) s

/-- `SUB L` (R174). -/
def execSubL (s : State) : Answer := subSrc 0x95#8 (.reg .l) s

/-- `SUB A` (R174). -/
def execSubA (s : State) : Answer := subSrc 0x97#8 (.reg .a) s

/-- `SUB M` (R175). -/
def execSubM (s : State) : Answer := subSrc 0x96#8 .mem s

/-- `SBB B` (R176). -/
def execSbbB (s : State) : Answer := sbbSrc 0x98#8 (.reg .b) s

/-- `SBB C` (R176). -/
def execSbbC (s : State) : Answer := sbbSrc 0x99#8 (.reg .c) s

/-- `SBB D` (R176). -/
def execSbbD (s : State) : Answer := sbbSrc 0x9A#8 (.reg .d) s

/-- `SBB E` (R176). -/
def execSbbE (s : State) : Answer := sbbSrc 0x9B#8 (.reg .e) s

/-- `SBB H` (R176). -/
def execSbbH (s : State) : Answer := sbbSrc 0x9C#8 (.reg .h) s

/-- `SBB L` (R176). -/
def execSbbL (s : State) : Answer := sbbSrc 0x9D#8 (.reg .l) s

/-- `SBB A` (R176). -/
def execSbbA (s : State) : Answer := sbbSrc 0x9F#8 (.reg .a) s

/-- `SBB M` (R177). -/
def execSbbM (s : State) : Answer := sbbSrc 0x9E#8 .mem s

/-- `ADI d8` (R178). -/
def execAdi (d8 : Byte) (s : State) : Answer := addSrc 0xC6#8 (.imm d8) s

/-- `ACI d8` (R179). -/
def execAci (d8 : Byte) (s : State) : Answer := adcSrc 0xCE#8 (.imm d8) s

/-- `SUI d8` (R180). -/
def execSui (d8 : Byte) (s : State) : Answer := subSrc 0xD6#8 (.imm d8) s

/-- `SBI d8` (R181). -/
def execSbi (d8 : Byte) (s : State) : Answer := sbbSrc 0xDE#8 (.imm d8) s

end Sys2Proof.Machine
end

