-- ==== Sys2Proof/Machine/Branch.lean ====
section
/-! DEFINITION. Jumps, call and return: JMP, Jcc, CALL, RET (46_branch_call_return.md, R230 to R240). No flag is written. -/

namespace Sys2Proof.Machine

/-! ## Shared operations -/

/-- JMP: `pc <- a16` (R230). -/
def jumpTo (op : Byte) (a16 : Word) (s : State) : Answer :=
  runHandler op s (.ok (.goto s a16))

/-- Jcc: `if cond(c) then pc <- a16` (R231 to R238). -/
def jumpIf (op : Byte) (cond : Cond) (a16 : Word) (s : State) : Answer :=
  runHandler op s (.ok (if condHolds cond s.flags then .goto s a16 else .stay s))

/-- A call: `Push16(npc[15:0]); pc <- target` (R239). -/
def callTo (op : Byte) (target : Word) (s : State) : Answer :=
  runHandler op s ((push16 s (returnAddress op s)).map fun t => .goto t target)

/-- A return: `pc <- Pop16()` (R240). -/
def returnFrom (op : Byte) (s : State) : Answer :=
  runHandler op s ((pop16 s).map fun x => .goto x.2 x.1)

/-! ## The meanings, one per opcode byte -/

/-- `JMP a16` (R230). -/
def execJmp (a16 : Word) (s : State) : Answer := jumpTo 0xC3#8 a16 s

/-- `JNZ a16` (R231). -/
def execJnz (a16 : Word) (s : State) : Answer := jumpIf 0xC2#8 .nz a16 s

/-- `JZ a16` (R232). -/
def execJz (a16 : Word) (s : State) : Answer := jumpIf 0xCA#8 .z a16 s

/-- `JNC a16` (R233). -/
def execJnc (a16 : Word) (s : State) : Answer := jumpIf 0xD2#8 .nc a16 s

/-- `JC a16` (R234). -/
def execJc (a16 : Word) (s : State) : Answer := jumpIf 0xDA#8 .c a16 s

/-- `JPO a16` (R235). -/
def execJpo (a16 : Word) (s : State) : Answer := jumpIf 0xE2#8 .po a16 s

/-- `JPE a16` (R236). -/
def execJpe (a16 : Word) (s : State) : Answer := jumpIf 0xEA#8 .pe a16 s

/-- `JP a16` (R237). -/
def execJp (a16 : Word) (s : State) : Answer := jumpIf 0xF2#8 .p a16 s

/-- `JM a16` (R238). -/
def execJm (a16 : Word) (s : State) : Answer := jumpIf 0xFA#8 .m a16 s

/-- `CALL a16` (R239). -/
def execCall (a16 : Word) (s : State) : Answer := callTo 0xCD#8 a16 s

/-- `RET` (R240). -/
def execRet (s : State) : Answer := returnFrom 0xC9#8 s

end Sys2Proof.Machine
end

