-- ==== Sys2Proof/Machine/CompletionControl.lean ====
section
/-! DEFINITION. Class X, control transfer: conditional calls and returns, RST, PCHL (48_completion_control.md, R290 to R307). With
`HANDLER_SET = F` each of these is fatal (R326). -/

namespace Sys2Proof.Machine

/-! ## Shared operations -/

/-- Ccc a16: when taken, what CALL does; when not, no stack access (R290 to R297). -/
def callIf (op : Byte) (cond : Cond) (a16 : Word) (s : State) : Answer :=
  if condHolds cond s.flags then callTo op a16 s else runHandler op s (.ok (.stay s))

/-- Rcc: when taken, what RET does; when not, no stack access (R298 to R305). -/
def returnIf (op : Byte) (cond : Cond) (s : State) : Answer :=
  if condHolds cond s.flags then returnFrom op s else runHandler op s (.ok (.stay s))

/-- PCHL: `pc <- HL` (R307). -/
def jumpPair (op : Byte) (s : State) : Answer :=
  runHandler op s (.ok (.goto s (s.pair .hl)))

/-! ## The meanings, one per opcode byte -/

/-- `CNZ a16` (R290). -/
def execCnz (a16 : Word) (s : State) : Answer := callIf 0xC4#8 .nz a16 s

/-- `CZ a16` (R291). -/
def execCz (a16 : Word) (s : State) : Answer := callIf 0xCC#8 .z a16 s

/-- `CNC a16` (R292). -/
def execCnc (a16 : Word) (s : State) : Answer := callIf 0xD4#8 .nc a16 s

/-- `CC a16` (R293). -/
def execCc (a16 : Word) (s : State) : Answer := callIf 0xDC#8 .c a16 s

/-- `CPO a16` (R294). -/
def execCpo (a16 : Word) (s : State) : Answer := callIf 0xE4#8 .po a16 s

/-- `CPE a16` (R295). -/
def execCpe (a16 : Word) (s : State) : Answer := callIf 0xEC#8 .pe a16 s

/-- `CP a16` (R296). -/
def execCp (a16 : Word) (s : State) : Answer := callIf 0xF4#8 .p a16 s

/-- `CM a16` (R297). -/
def execCm (a16 : Word) (s : State) : Answer := callIf 0xFC#8 .m a16 s

/-- `RNZ` (R298). -/
def execRnz (s : State) : Answer := returnIf 0xC0#8 .nz s

/-- `RZ` (R299). -/
def execRz (s : State) : Answer := returnIf 0xC8#8 .z s

/-- `RNC` (R300). -/
def execRnc (s : State) : Answer := returnIf 0xD0#8 .nc s

/-- `RC` (R301). -/
def execRc (s : State) : Answer := returnIf 0xD8#8 .c s

/-- `RPO` (R302). -/
def execRpo (s : State) : Answer := returnIf 0xE0#8 .po s

/-- `RPE` (R303). -/
def execRpe (s : State) : Answer := returnIf 0xE8#8 .pe s

/-- `RP` (R304). -/
def execRp (s : State) : Answer := returnIf 0xF0#8 .p s

/-- `RM` (R305). -/
def execRm (s : State) : Answer := returnIf 0xF8#8 .m s

/-- `RST 0` (R306). -/
def execRst0 (s : State) : Answer := callTo 0xC7#8 0x0000#16 s

/-- `RST 1` (R306). -/
def execRst1 (s : State) : Answer := callTo 0xCF#8 0x0008#16 s

/-- `RST 2` (R306). -/
def execRst2 (s : State) : Answer := callTo 0xD7#8 0x0010#16 s

/-- `RST 3` (R306). -/
def execRst3 (s : State) : Answer := callTo 0xDF#8 0x0018#16 s

/-- `RST 4` (R306). -/
def execRst4 (s : State) : Answer := callTo 0xE7#8 0x0020#16 s

/-- `RST 5` (R306). -/
def execRst5 (s : State) : Answer := callTo 0xEF#8 0x0028#16 s

/-- `RST 6` (R306). -/
def execRst6 (s : State) : Answer := callTo 0xF7#8 0x0030#16 s

/-- `RST 7` (R306). -/
def execRst7 (s : State) : Answer := callTo 0xFF#8 0x0038#16 s

/-- `PCHL` (R307). -/
def execPchl (s : State) : Answer := jumpPair 0xE9#8 s

end Sys2Proof.Machine
end

