-- ==== Sys2Proof/Machine/CompletionData.lean ====
section
/-! DEFINITION. Class X, data and arithmetic (47_completion_data_arith.md, R250 to R268). With `HANDLER_SET = F` each of these is fatal
(R326): `runHandler` sees to it. -/

namespace Sys2Proof.Machine

/-! ## Shared operations -/

/-- MVI r,d8 (R250). -/
def mviReg (op : Byte) (r : Reg) (d8 : Byte) (s : State) : Answer :=
  runHandler op s (.ok (.stay (s.setReg r d8)))

/-- MVI M,d8 (R251). -/
def mviMem (op d8 : Byte) (s : State) : Answer :=
  runHandler op s ((memWrite s s.addrM d8).map .stay)

/-- LDA a16 (R252). -/
def loadDirect (op : Byte) (a16 : Word) (s : State) : Answer :=
  runHandler op s ((memRead s a16.toNat).map fun v => .stay (s.setReg .a v))

/-- STA a16 (R253). -/
def storeDirect (op : Byte) (a16 : Word) (s : State) : Answer :=
  runHandler op s ((memWrite s a16.toNat s.regs.a).map .stay)

/-- LHLD a16 (R254). -/
def loadPairDirect (op : Byte) (a16 : Word) (s : State) : Answer :=
  runHandler op s ((memRead16 s a16.toNat).map fun v => .stay (s.setPair .hl v))

/-- SHLD a16 (R255). -/
def storePairDirect (op : Byte) (a16 : Word) (s : State) : Answer :=
  runHandler op s ((memWrite16 s a16.toNat (s.pair .hl)).map .stay)

/-- XCHG: HL and DE exchange, both read before either is written (R256, R119). -/
def exchangePairs (op : Byte) (s : State) : Answer :=
  runHandler op s (.ok (.stay ((s.setPair .hl (s.pair .de)).setPair .de (s.pair .hl))))

/-- XTHL: HL and the word at SP exchange; both bytes are read before either is written (R257). -/
def exchangeTop (op : Byte) (s : State) : Answer :=
  runHandler op s
    (match memRead16 s s.sp.toNat with
    | .error r => .error r
    | .ok v => (memWrite16 s s.sp.toNat (s.pair .hl)).map fun t => .stay (t.setPair .hl v))

/-- INR r: `Add8(R[r], 1, 0)`, Carry kept (R258). -/
def inrReg (op : Byte) (r : Reg) (s : State) : Answer :=
  runHandler op s
    (.ok (.stay ((s.setReg r (add8 (s.reg r) 1#8 false).r).setFlags (s.flags.ofCount (add8 (s.reg r) 1#8 false)))))

/-- INR M (R259). -/
def inrMem (op : Byte) (s : State) : Answer :=
  runHandler op s
    (match memRead s s.addrM with
    | .error r => .error r
    | .ok v =>
      (memWrite s s.addrM (add8 v 1#8 false).r).map fun t => .stay (t.setFlags (s.flags.ofCount (add8 v 1#8 false))))

/-- DCR r: `Sub8(R[r], 1, 0)`, Carry kept (R260). -/
def dcrReg (op : Byte) (r : Reg) (s : State) : Answer :=
  runHandler op s
    (.ok (.stay ((s.setReg r (sub8 (s.reg r) 1#8 false).r).setFlags (s.flags.ofCount (sub8 (s.reg r) 1#8 false)))))

/-- DCR M (R261). -/
def dcrMem (op : Byte) (s : State) : Answer :=
  runHandler op s
    (match memRead s s.addrM with
    | .error r => .error r
    | .ok v =>
      (memWrite s s.addrM (sub8 v 1#8 false).r).map fun t => .stay (t.setFlags (s.flags.ofCount (sub8 v 1#8 false))))

/-- INX rp: register arithmetic, reduced to 16 bits, no flag (R262, D8). -/
def inxPair (op : Byte) (p : Pair) (s : State) : Answer :=
  runHandler op s (.ok (.stay (s.setPair p (s.pair p + 1#16))))

/-- DCX rp (R263, D8). -/
def dcxPair (op : Byte) (p : Pair) (s : State) : Answer :=
  runHandler op s (.ok (.stay (s.setPair p (s.pair p - 1#16))))

/-- The integer sum of DAD (R264). -/
def dadSum (p : Pair) (s : State) : Nat := (s.pair .hl).toNat + (s.pair p).toNat

/-- DAD rp: HL takes the sum, Carry the carry out of bit 15, the other flags are kept (R264). -/
def dadPair (op : Byte) (p : Pair) (s : State) : Answer :=
  runHandler op s
    (.ok (.stay ((s.setPair .hl (BitVec.ofNat 16 (dadSum p s))).setFlags
      { s.flags with cy := decide (dadSum p s > 0xFFFF) })))

/-- DAA (R265). -/
def decimalAdjust (op : Byte) (s : State) : Answer :=
  runHandler op s
    (.ok (.stay (s.setAcc (daa8 s.regs.a s.flags.cy s.flags.ac).r
      (s.flags.ofAlu (daa8 s.regs.a s.flags.cy s.flags.ac)))))

/-- STC (R266). -/
def setCarry (op : Byte) (s : State) : Answer :=
  runHandler op s (.ok (.stay (s.setFlags { s.flags with cy := true })))

/-- CMC (R267). -/
def complementCarry (op : Byte) (s : State) : Answer :=
  runHandler op s (.ok (.stay (s.setFlags { s.flags with cy := !s.flags.cy })))

/-- SPHL (R268). -/
def loadSp (op : Byte) (s : State) : Answer :=
  runHandler op s (.ok (.stay (s.setPair .sp (s.pair .hl))))

/-! ## The meanings, one per opcode byte -/

/-- `MVI B,d8` (R250). -/
def execMviB (d8 : Byte) (s : State) : Answer := mviReg 0x06#8 .b d8 s

/-- `MVI C,d8` (R250). -/
def execMviC (d8 : Byte) (s : State) : Answer := mviReg 0x0E#8 .c d8 s

/-- `MVI D,d8` (R250). -/
def execMviD (d8 : Byte) (s : State) : Answer := mviReg 0x16#8 .d d8 s

/-- `MVI E,d8` (R250). -/
def execMviE (d8 : Byte) (s : State) : Answer := mviReg 0x1E#8 .e d8 s

/-- `MVI H,d8` (R250). -/
def execMviH (d8 : Byte) (s : State) : Answer := mviReg 0x26#8 .h d8 s

/-- `MVI L,d8` (R250). -/
def execMviL (d8 : Byte) (s : State) : Answer := mviReg 0x2E#8 .l d8 s

/-- `MVI A,d8` (R250). -/
def execMviA (d8 : Byte) (s : State) : Answer := mviReg 0x3E#8 .a d8 s

/-- `MVI M,d8` (R251). -/
def execMviM (d8 : Byte) (s : State) : Answer := mviMem 0x36#8 d8 s

/-- `LDA a16` (R252). -/
def execLda (a16 : Word) (s : State) : Answer := loadDirect 0x3A#8 a16 s

/-- `STA a16` (R253). -/
def execSta (a16 : Word) (s : State) : Answer := storeDirect 0x32#8 a16 s

/-- `LHLD a16` (R254). -/
def execLhld (a16 : Word) (s : State) : Answer := loadPairDirect 0x2A#8 a16 s

/-- `SHLD a16` (R255). -/
def execShld (a16 : Word) (s : State) : Answer := storePairDirect 0x22#8 a16 s

/-- `XCHG` (R256). -/
def execXchg (s : State) : Answer := exchangePairs 0xEB#8 s

/-- `XTHL` (R257). -/
def execXthl (s : State) : Answer := exchangeTop 0xE3#8 s

/-- `INR B` (R258). -/
def execInrB (s : State) : Answer := inrReg 0x04#8 .b s

/-- `INR C` (R258). -/
def execInrC (s : State) : Answer := inrReg 0x0C#8 .c s

/-- `INR D` (R258). -/
def execInrD (s : State) : Answer := inrReg 0x14#8 .d s

/-- `INR E` (R258). -/
def execInrE (s : State) : Answer := inrReg 0x1C#8 .e s

/-- `INR H` (R258). -/
def execInrH (s : State) : Answer := inrReg 0x24#8 .h s

/-- `INR L` (R258). -/
def execInrL (s : State) : Answer := inrReg 0x2C#8 .l s

/-- `INR A` (R258). -/
def execInrA (s : State) : Answer := inrReg 0x3C#8 .a s

/-- `INR M` (R259). -/
def execInrM (s : State) : Answer := inrMem 0x34#8 s

/-- `DCR B` (R260). -/
def execDcrB (s : State) : Answer := dcrReg 0x05#8 .b s

/-- `DCR C` (R260). -/
def execDcrC (s : State) : Answer := dcrReg 0x0D#8 .c s

/-- `DCR D` (R260). -/
def execDcrD (s : State) : Answer := dcrReg 0x15#8 .d s

/-- `DCR E` (R260). -/
def execDcrE (s : State) : Answer := dcrReg 0x1D#8 .e s

/-- `DCR H` (R260). -/
def execDcrH (s : State) : Answer := dcrReg 0x25#8 .h s

/-- `DCR L` (R260). -/
def execDcrL (s : State) : Answer := dcrReg 0x2D#8 .l s

/-- `DCR A` (R260). -/
def execDcrA (s : State) : Answer := dcrReg 0x3D#8 .a s

/-- `DCR M` (R261). -/
def execDcrM (s : State) : Answer := dcrMem 0x35#8 s

/-- `INX B` (R262). -/
def execInxB (s : State) : Answer := inxPair 0x03#8 .bc s

/-- `INX D` (R262). -/
def execInxD (s : State) : Answer := inxPair 0x13#8 .de s

/-- `INX H` (R262). -/
def execInxH (s : State) : Answer := inxPair 0x23#8 .hl s

/-- `INX SP` (R262). -/
def execInxSp (s : State) : Answer := inxPair 0x33#8 .sp s

/-- `DCX B` (R263). -/
def execDcxB (s : State) : Answer := dcxPair 0x0B#8 .bc s

/-- `DCX D` (R263). -/
def execDcxD (s : State) : Answer := dcxPair 0x1B#8 .de s

/-- `DCX H` (R263). -/
def execDcxH (s : State) : Answer := dcxPair 0x2B#8 .hl s

/-- `DCX SP` (R263). -/
def execDcxSp (s : State) : Answer := dcxPair 0x3B#8 .sp s

/-- `DAD B` (R264). -/
def execDadB (s : State) : Answer := dadPair 0x09#8 .bc s

/-- `DAD D` (R264). -/
def execDadD (s : State) : Answer := dadPair 0x19#8 .de s

/-- `DAD H` (R264). -/
def execDadH (s : State) : Answer := dadPair 0x29#8 .hl s

/-- `DAD SP` (R264). -/
def execDadSp (s : State) : Answer := dadPair 0x39#8 .sp s

/-- `DAA` (R265). -/
def execDaa (s : State) : Answer := decimalAdjust 0x27#8 s

/-- `STC` (R266). -/
def execStc (s : State) : Answer := setCarry 0x37#8 s

/-- `CMC` (R267). -/
def execCmc (s : State) : Answer := complementCarry 0x3F#8 s

/-- `SPHL` (R268). -/
def execSphl (s : State) : Answer := loadSp 0xF9#8 s

end Sys2Proof.Machine
end

