-- ==== Sys2Proof/Machine/DataMovement.lean ====
section
/-! DEFINITION. Data movement: MOV, LDAX, STAX, LXI (41_data_movement.md, R150 to R156). None touches a flag. -/

namespace Sys2Proof.Machine

/-! ## Shared operations -/

/-- MOV r1,r2: `R[dst] <- R[src]` (R150). -/
def movRegReg (op : Byte) (dst src : Reg) (s : State) : Answer :=
  runHandler op s (.ok (.stay (s.setReg dst (s.reg src))))

/-- MOV r,M: `R[d] <- MemRead(HL, 1)`, HL at the start of the step (R151). -/
def movRegMem (op : Byte) (dst : Reg) (s : State) : Answer :=
  runHandler op s ((memRead s s.addrM).map fun v => .stay (s.setReg dst v))

/-- MOV M,r: `MemWrite(HL, 1, R[r])` (R152). -/
def movMemReg (op : Byte) (r : Reg) (s : State) : Answer :=
  runHandler op s ((memWrite s s.addrM (s.reg r)).map .stay)

/-- LDAX rp: `A <- MemRead(RP[p], 1)` (R153). -/
def ldax (op : Byte) (p : Pair) (s : State) : Answer :=
  runHandler op s ((memRead s (s.pairAddr p)).map fun v => .stay (s.setReg .a v))

/-- STAX rp: `MemWrite(RP[p], 1, A)` (R154). -/
def stax (op : Byte) (p : Pair) (s : State) : Answer :=
  runHandler op s ((memWrite s (s.pairAddr p) s.regs.a).map .stay)

/-- LXI rp,d16: the high register takes byte 2, the low register byte 1 (R155); SP takes both (R156). -/
def lxi (op : Byte) (p : Pair) (d16 : Word) (s : State) : Answer :=
  runHandler op s (.ok (.stay (s.setPair p d16)))

/-! ## The meanings, one per opcode byte -/

/-- `MOV B,B` (R150). -/
def execMovBB (s : State) : Answer := movRegReg 0x40#8 .b .b s

/-- `MOV B,C` (R150). -/
def execMovBC (s : State) : Answer := movRegReg 0x41#8 .b .c s

/-- `MOV B,D` (R150). -/
def execMovBD (s : State) : Answer := movRegReg 0x42#8 .b .d s

/-- `MOV B,E` (R150). -/
def execMovBE (s : State) : Answer := movRegReg 0x43#8 .b .e s

/-- `MOV B,H` (R150). -/
def execMovBH (s : State) : Answer := movRegReg 0x44#8 .b .h s

/-- `MOV B,L` (R150). -/
def execMovBL (s : State) : Answer := movRegReg 0x45#8 .b .l s

/-- `MOV B,A` (R150). -/
def execMovBA (s : State) : Answer := movRegReg 0x47#8 .b .a s

/-- `MOV C,B` (R150). -/
def execMovCB (s : State) : Answer := movRegReg 0x48#8 .c .b s

/-- `MOV C,C` (R150). -/
def execMovCC (s : State) : Answer := movRegReg 0x49#8 .c .c s

/-- `MOV C,D` (R150). -/
def execMovCD (s : State) : Answer := movRegReg 0x4A#8 .c .d s

/-- `MOV C,E` (R150). -/
def execMovCE (s : State) : Answer := movRegReg 0x4B#8 .c .e s

/-- `MOV C,H` (R150). -/
def execMovCH (s : State) : Answer := movRegReg 0x4C#8 .c .h s

/-- `MOV C,L` (R150). -/
def execMovCL (s : State) : Answer := movRegReg 0x4D#8 .c .l s

/-- `MOV C,A` (R150). -/
def execMovCA (s : State) : Answer := movRegReg 0x4F#8 .c .a s

/-- `MOV D,B` (R150). -/
def execMovDB (s : State) : Answer := movRegReg 0x50#8 .d .b s

/-- `MOV D,C` (R150). -/
def execMovDC (s : State) : Answer := movRegReg 0x51#8 .d .c s

/-- `MOV D,D` (R150). -/
def execMovDD (s : State) : Answer := movRegReg 0x52#8 .d .d s

/-- `MOV D,E` (R150). -/
def execMovDE (s : State) : Answer := movRegReg 0x53#8 .d .e s

/-- `MOV D,H` (R150). -/
def execMovDH (s : State) : Answer := movRegReg 0x54#8 .d .h s

/-- `MOV D,L` (R150). -/
def execMovDL (s : State) : Answer := movRegReg 0x55#8 .d .l s

/-- `MOV D,A` (R150). -/
def execMovDA (s : State) : Answer := movRegReg 0x57#8 .d .a s

/-- `MOV E,B` (R150). -/
def execMovEB (s : State) : Answer := movRegReg 0x58#8 .e .b s

/-- `MOV E,C` (R150). -/
def execMovEC (s : State) : Answer := movRegReg 0x59#8 .e .c s

/-- `MOV E,D` (R150). -/
def execMovED (s : State) : Answer := movRegReg 0x5A#8 .e .d s

/-- `MOV E,E` (R150). -/
def execMovEE (s : State) : Answer := movRegReg 0x5B#8 .e .e s

/-- `MOV E,H` (R150). -/
def execMovEH (s : State) : Answer := movRegReg 0x5C#8 .e .h s

/-- `MOV E,L` (R150). -/
def execMovEL (s : State) : Answer := movRegReg 0x5D#8 .e .l s

/-- `MOV E,A` (R150). -/
def execMovEA (s : State) : Answer := movRegReg 0x5F#8 .e .a s

/-- `MOV H,B` (R150). -/
def execMovHB (s : State) : Answer := movRegReg 0x60#8 .h .b s

/-- `MOV H,C` (R150). -/
def execMovHC (s : State) : Answer := movRegReg 0x61#8 .h .c s

/-- `MOV H,D` (R150). -/
def execMovHD (s : State) : Answer := movRegReg 0x62#8 .h .d s

/-- `MOV H,E` (R150). -/
def execMovHE (s : State) : Answer := movRegReg 0x63#8 .h .e s

/-- `MOV H,H` (R150). -/
def execMovHH (s : State) : Answer := movRegReg 0x64#8 .h .h s

/-- `MOV H,L` (R150). -/
def execMovHL (s : State) : Answer := movRegReg 0x65#8 .h .l s

/-- `MOV H,A` (R150). -/
def execMovHA (s : State) : Answer := movRegReg 0x67#8 .h .a s

/-- `MOV L,B` (R150). -/
def execMovLB (s : State) : Answer := movRegReg 0x68#8 .l .b s

/-- `MOV L,C` (R150). -/
def execMovLC (s : State) : Answer := movRegReg 0x69#8 .l .c s

/-- `MOV L,D` (R150). -/
def execMovLD (s : State) : Answer := movRegReg 0x6A#8 .l .d s

/-- `MOV L,E` (R150). -/
def execMovLE (s : State) : Answer := movRegReg 0x6B#8 .l .e s

/-- `MOV L,H` (R150). -/
def execMovLH (s : State) : Answer := movRegReg 0x6C#8 .l .h s

/-- `MOV L,L` (R150). -/
def execMovLL (s : State) : Answer := movRegReg 0x6D#8 .l .l s

/-- `MOV L,A` (R150). -/
def execMovLA (s : State) : Answer := movRegReg 0x6F#8 .l .a s

/-- `MOV A,B` (R150). -/
def execMovAB (s : State) : Answer := movRegReg 0x78#8 .a .b s

/-- `MOV A,C` (R150). -/
def execMovAC (s : State) : Answer := movRegReg 0x79#8 .a .c s

/-- `MOV A,D` (R150). -/
def execMovAD (s : State) : Answer := movRegReg 0x7A#8 .a .d s

/-- `MOV A,E` (R150). -/
def execMovAE (s : State) : Answer := movRegReg 0x7B#8 .a .e s

/-- `MOV A,H` (R150). -/
def execMovAH (s : State) : Answer := movRegReg 0x7C#8 .a .h s

/-- `MOV A,L` (R150). -/
def execMovAL (s : State) : Answer := movRegReg 0x7D#8 .a .l s

/-- `MOV A,A` (R150). -/
def execMovAA (s : State) : Answer := movRegReg 0x7F#8 .a .a s

/-- `MOV B,M` (R151). -/
def execMovBM (s : State) : Answer := movRegMem 0x46#8 .b s

/-- `MOV C,M` (R151). -/
def execMovCM (s : State) : Answer := movRegMem 0x4E#8 .c s

/-- `MOV D,M` (R151). -/
def execMovDM (s : State) : Answer := movRegMem 0x56#8 .d s

/-- `MOV E,M` (R151). -/
def execMovEM (s : State) : Answer := movRegMem 0x5E#8 .e s

/-- `MOV H,M` (R151). -/
def execMovHM (s : State) : Answer := movRegMem 0x66#8 .h s

/-- `MOV L,M` (R151). -/
def execMovLM (s : State) : Answer := movRegMem 0x6E#8 .l s

/-- `MOV A,M` (R151). -/
def execMovAM (s : State) : Answer := movRegMem 0x7E#8 .a s

/-- `MOV M,B` (R152). -/
def execMovMB (s : State) : Answer := movMemReg 0x70#8 .b s

/-- `MOV M,C` (R152). -/
def execMovMC (s : State) : Answer := movMemReg 0x71#8 .c s

/-- `MOV M,D` (R152). -/
def execMovMD (s : State) : Answer := movMemReg 0x72#8 .d s

/-- `MOV M,E` (R152). -/
def execMovME (s : State) : Answer := movMemReg 0x73#8 .e s

/-- `MOV M,H` (R152). -/
def execMovMH (s : State) : Answer := movMemReg 0x74#8 .h s

/-- `MOV M,L` (R152). -/
def execMovML (s : State) : Answer := movMemReg 0x75#8 .l s

/-- `MOV M,A` (R152). -/
def execMovMA (s : State) : Answer := movMemReg 0x77#8 .a s

/-- `LDAX B` (R153). -/
def execLdaxB (s : State) : Answer := ldax 0x0A#8 .bc s

/-- `LDAX D` (R153). -/
def execLdaxD (s : State) : Answer := ldax 0x1A#8 .de s

/-- `STAX B` (R154). -/
def execStaxB (s : State) : Answer := stax 0x02#8 .bc s

/-- `STAX D` (R154). -/
def execStaxD (s : State) : Answer := stax 0x12#8 .de s

/-- `LXI B,d16` (R155). -/
def execLxiB (d16 : Word) (s : State) : Answer := lxi 0x01#8 .bc d16 s

/-- `LXI D,d16` (R155). -/
def execLxiD (d16 : Word) (s : State) : Answer := lxi 0x11#8 .de d16 s

/-- `LXI H,d16` (R155). -/
def execLxiH (d16 : Word) (s : State) : Answer := lxi 0x21#8 .hl d16 s

/-- `LXI SP,d16` (R156). -/
def execLxiSp (d16 : Word) (s : State) : Answer := lxi 0x31#8 .sp d16 s

end Sys2Proof.Machine
end

