-- ==== Sys2Proof/Machine/Logical.lean ====
section
/-! DEFINITION. Logic and compare on the accumulator: ANA, XRA, ORA, CMP and their immediate forms (43_logical_compare.md, R190 to R201). -/

namespace Sys2Proof.Machine

/-! ## Shared operations -/

/-- ANA: the AND of the logic unit (R190, R191, R198). -/
def anaSrc (op : Byte) (src : Src) (s : State) : Answer :=
  accumulate op src (fun v => and8 s.regs.a v) s

/-- XRA: the exclusive OR of the logic unit (R192, R193, R199). -/
def xraSrc (op : Byte) (src : Src) (s : State) : Answer :=
  accumulate op src (fun v => xor8 s.regs.a v) s

/-- ORA: the OR of the logic unit (R194, R195, R200). -/
def oraSrc (op : Byte) (src : Src) (s : State) : Answer :=
  accumulate op src (fun v => or8 s.regs.a v) s

/-- CMP: the compare unit (R127); no register and not AuxiliaryCarry is written (R196, R197, R201). -/
def cmpSrc (op : Byte) (src : Src) (s : State) : Answer :=
  runHandler op s ((src.value s).map fun v => .stay (s.setFlags (s.flags.ofCompare (sub8 s.regs.a v false))))

/-! ## The meanings, one per opcode byte -/

/-- `ANA B` (R190). -/
def execAnaB (s : State) : Answer := anaSrc 0xA0#8 (.reg .b) s

/-- `ANA C` (R190). -/
def execAnaC (s : State) : Answer := anaSrc 0xA1#8 (.reg .c) s

/-- `ANA D` (R190). -/
def execAnaD (s : State) : Answer := anaSrc 0xA2#8 (.reg .d) s

/-- `ANA E` (R190). -/
def execAnaE (s : State) : Answer := anaSrc 0xA3#8 (.reg .e) s

/-- `ANA H` (R190). -/
def execAnaH (s : State) : Answer := anaSrc 0xA4#8 (.reg .h) s

/-- `ANA L` (R190). -/
def execAnaL (s : State) : Answer := anaSrc 0xA5#8 (.reg .l) s

/-- `ANA A` (R190). -/
def execAnaA (s : State) : Answer := anaSrc 0xA7#8 (.reg .a) s

/-- `ANA M` (R191). -/
def execAnaM (s : State) : Answer := anaSrc 0xA6#8 .mem s

/-- `XRA B` (R192). -/
def execXraB (s : State) : Answer := xraSrc 0xA8#8 (.reg .b) s

/-- `XRA C` (R192). -/
def execXraC (s : State) : Answer := xraSrc 0xA9#8 (.reg .c) s

/-- `XRA D` (R192). -/
def execXraD (s : State) : Answer := xraSrc 0xAA#8 (.reg .d) s

/-- `XRA E` (R192). -/
def execXraE (s : State) : Answer := xraSrc 0xAB#8 (.reg .e) s

/-- `XRA H` (R192). -/
def execXraH (s : State) : Answer := xraSrc 0xAC#8 (.reg .h) s

/-- `XRA L` (R192). -/
def execXraL (s : State) : Answer := xraSrc 0xAD#8 (.reg .l) s

/-- `XRA A` (R192). -/
def execXraA (s : State) : Answer := xraSrc 0xAF#8 (.reg .a) s

/-- `XRA M` (R193). -/
def execXraM (s : State) : Answer := xraSrc 0xAE#8 .mem s

/-- `ORA B` (R194). -/
def execOraB (s : State) : Answer := oraSrc 0xB0#8 (.reg .b) s

/-- `ORA C` (R194). -/
def execOraC (s : State) : Answer := oraSrc 0xB1#8 (.reg .c) s

/-- `ORA D` (R194). -/
def execOraD (s : State) : Answer := oraSrc 0xB2#8 (.reg .d) s

/-- `ORA E` (R194). -/
def execOraE (s : State) : Answer := oraSrc 0xB3#8 (.reg .e) s

/-- `ORA H` (R194). -/
def execOraH (s : State) : Answer := oraSrc 0xB4#8 (.reg .h) s

/-- `ORA L` (R194). -/
def execOraL (s : State) : Answer := oraSrc 0xB5#8 (.reg .l) s

/-- `ORA A` (R194). -/
def execOraA (s : State) : Answer := oraSrc 0xB7#8 (.reg .a) s

/-- `ORA M` (R195). -/
def execOraM (s : State) : Answer := oraSrc 0xB6#8 .mem s

/-- `CMP B` (R196). -/
def execCmpB (s : State) : Answer := cmpSrc 0xB8#8 (.reg .b) s

/-- `CMP C` (R196). -/
def execCmpC (s : State) : Answer := cmpSrc 0xB9#8 (.reg .c) s

/-- `CMP D` (R196). -/
def execCmpD (s : State) : Answer := cmpSrc 0xBA#8 (.reg .d) s

/-- `CMP E` (R196). -/
def execCmpE (s : State) : Answer := cmpSrc 0xBB#8 (.reg .e) s

/-- `CMP H` (R196). -/
def execCmpH (s : State) : Answer := cmpSrc 0xBC#8 (.reg .h) s

/-- `CMP L` (R196). -/
def execCmpL (s : State) : Answer := cmpSrc 0xBD#8 (.reg .l) s

/-- `CMP A` (R196). -/
def execCmpA (s : State) : Answer := cmpSrc 0xBF#8 (.reg .a) s

/-- `CMP M` (R197). -/
def execCmpM (s : State) : Answer := cmpSrc 0xBE#8 .mem s

/-- `ANI d8` (R198). -/
def execAni (d8 : Byte) (s : State) : Answer := anaSrc 0xE6#8 (.imm d8) s

/-- `XRI d8` (R199). -/
def execXri (d8 : Byte) (s : State) : Answer := xraSrc 0xEE#8 (.imm d8) s

/-- `ORI d8` (R200). -/
def execOri (d8 : Byte) (s : State) : Answer := oraSrc 0xF6#8 (.imm d8) s

/-- `CPI d8` (R201). -/
def execCpi (d8 : Byte) (s : State) : Answer := cmpSrc 0xFE#8 (.imm d8) s

end Sys2Proof.Machine
end

