-- ==== Sys2Proof/Machine/Rotate.lean ====
section
/-! DEFINITION. Rotates, complement and no-op: RLC, RRC, RAL, RAR, CMA, NOP (44_rotate_complement_nop.md, R210 to R215). -/

namespace Sys2Proof.Machine

/-! ## Shared operations -/

/-- A rotate: A and Carry are written, the other flags keep their values (R210 to R213). -/
def rotateAcc (op : Byte) (o : Byte × Bool) (s : State) : Answer :=
  runHandler op s (.ok (.stay (s.setAcc o.1 { s.flags with cy := o.2 })))

/-- CMA: `A <- ~A`, no flag (R214). -/
def complementAcc (op : Byte) (s : State) : Answer :=
  runHandler op s (.ok (.stay (s.setReg .a (~~~s.regs.a))))

/-- NOP: nothing but the advance of PC (R215). -/
def noOperation (op : Byte) (s : State) : Answer :=
  runHandler op s (.ok (.stay s))

/-! ## The meanings, one per opcode byte -/

/-- `RLC` (R210). -/
def execRlc (s : State) : Answer := rotateAcc 0x07#8 (rotateLeft s.regs.a) s

/-- `RRC` (R211). -/
def execRrc (s : State) : Answer := rotateAcc 0x0F#8 (rotateRight s.regs.a) s

/-- `RAL` (R212). -/
def execRal (s : State) : Answer := rotateAcc 0x17#8 (rotateLeftCarry s.regs.a s.flags.cy) s

/-- `RAR` (R213). -/
def execRar (s : State) : Answer := rotateAcc 0x1F#8 (rotateRightCarry s.regs.a s.flags.cy) s

/-- `CMA` (R214). -/
def execCma (s : State) : Answer := complementAcc 0x2F#8 s

/-- `NOP` (R215). -/
def execNop (s : State) : Answer := noOperation 0x00#8 s

end Sys2Proof.Machine
end

