-- ==== Sys2Proof/Machine/Stack.lean ====
section
/-! DEFINITION. Stack instructions: PUSH, POP (45_stack.md, R220 to R223). -/

namespace Sys2Proof.Machine

/-! ## Shared operations -/

/-- PUSH: `Push16(v)` (R220, R221). -/
def pushWord (op : Byte) (v : Word) (s : State) : Answer :=
  runHandler op s ((push16 s v).map .stay)

/-- POP rp: the pair takes the popped value (R222). -/
def popPair (op : Byte) (p : Pair) (s : State) : Answer :=
  runHandler op s ((pop16 s).map fun x => .stay (x.2.setPair p x.1))

/-- POP PSW: A takes the high byte, the flags are unpacked from the low byte (R223). -/
def popPsw (op : Byte) (s : State) : Answer :=
  runHandler op s ((pop16 s).map fun x => .stay (x.2.setPsw x.1))

/-! ## The meanings, one per opcode byte -/

/-- `PUSH B` (R220). -/
def execPushB (s : State) : Answer := pushWord 0xC5#8 (s.pair .bc) s

/-- `PUSH D` (R220). -/
def execPushD (s : State) : Answer := pushWord 0xD5#8 (s.pair .de) s

/-- `PUSH H` (R220). -/
def execPushH (s : State) : Answer := pushWord 0xE5#8 (s.pair .hl) s

/-- `PUSH PSW` (R221). -/
def execPushPsw (s : State) : Answer := pushWord 0xF5#8 s.psw s

/-- `POP B` (R222). -/
def execPopB (s : State) : Answer := popPair 0xC1#8 .bc s

/-- `POP D` (R222). -/
def execPopD (s : State) : Answer := popPair 0xD1#8 .de s

/-- `POP H` (R222). -/
def execPopH (s : State) : Answer := popPair 0xE1#8 .hl s

/-- `POP PSW` (R223). -/
def execPopPsw (s : State) : Answer := popPsw 0xF1#8 s

end Sys2Proof.Machine
end

