-- ==== Sys2Proof/Machine/Unhandled.lean ====
section
/-! DEFINITION. Opcodes without a handler: HLT, IN, OUT, DI, EI and the twelve undocumented bytes (49_unhandled_opcodes.md, R320 to
R325). Each raises `UnimplementedOpcode` and changes nothing but `RS` and `ERR`. -/

namespace Sys2Proof.Machine

/-! ## Shared operations -/

/-- The designated error handler (R96, R341). -/
def noHandler (op : Byte) (s : State) : Answer := .next (s.raise op .unimplementedOpcode)

/-! ## The meanings, one per opcode byte -/

/-- `HLT` (R320). -/
def execHlt (s : State) : Answer := noHandler 0x76#8 s

/-- `IN d8` (R321). -/
def execInPort (s : State) : Answer := noHandler 0xDB#8 s

/-- `OUT d8` (R322). -/
def execOutPort (s : State) : Answer := noHandler 0xD3#8 s

/-- `DI` (R323). -/
def execDi (s : State) : Answer := noHandler 0xF3#8 s

/-- `EI` (R324). -/
def execEi (s : State) : Answer := noHandler 0xFB#8 s

/-- `undocumented 0x08` (R325). -/
def execUndoc08 (s : State) : Answer := noHandler 0x08#8 s

/-- `undocumented 0x10` (R325). -/
def execUndoc10 (s : State) : Answer := noHandler 0x10#8 s

/-- `undocumented 0x18` (R325). -/
def execUndoc18 (s : State) : Answer := noHandler 0x18#8 s

/-- `undocumented 0x20` (R325). -/
def execUndoc20 (s : State) : Answer := noHandler 0x20#8 s

/-- `undocumented 0x28` (R325). -/
def execUndoc28 (s : State) : Answer := noHandler 0x28#8 s

/-- `undocumented 0x30` (R325). -/
def execUndoc30 (s : State) : Answer := noHandler 0x30#8 s

/-- `undocumented 0x38` (R325). -/
def execUndoc38 (s : State) : Answer := noHandler 0x38#8 s

/-- `undocumented 0xCB` (R325). -/
def execUndocCB (s : State) : Answer := noHandler 0xCB#8 s

/-- `undocumented 0xD9` (R325). -/
def execUndocD9 (s : State) : Answer := noHandler 0xD9#8 s

/-- `undocumented 0xDD` (R325). -/
def execUndocDD (s : State) : Answer := noHandler 0xDD#8 s

/-- `undocumented 0xED` (R325). -/
def execUndocED (s : State) : Answer := noHandler 0xED#8 s

/-- `undocumented 0xFD` (R325). -/
def execUndocFD (s : State) : Answer := noHandler 0xFD#8 s

end Sys2Proof.Machine
end

