-- ==== Sys2Proof/Machine/Fetch.lean ====
section
/-! DEFINITION. FETCH and DECODE (R111 to R113): the opcode byte at PC, the handler lookup, and only then the operand
bytes in ascending address order. -/

namespace Sys2Proof.Machine

/-- What FETCH and DECODE give. -/
inductive Fetched where
  /-- A handled instruction with its operand bytes. -/
  | decoded (i : Instr)
  /-- The opcode byte `op` has no handler, or one of its operand bytes is out of bounds. -/
  | raised (op : Byte) (r : Raise)
  /-- The opcode fetch itself is out of bounds: unreachable (R111, R347). -/
  | outside
  deriving DecidableEq, Repr

/-- The operand bytes of an opcode at PC (R112): `b1` and `b2`, 0 where the opcode has none. -/
def fetchOperands (s : State) (op : Byte) : Except Raise (Byte × Byte) :=
  let pc : Int := s.pc.toNat
  match operandLength op with
  | 0 => .ok (0#8, 0#8)
  | 1 => (memRead s (pc + 1)).map fun b1 => (b1, 0#8)
  | _ =>
    match memRead s (pc + 1) with
    | .error r => .error r
    | .ok b1 => (memRead s (pc + 2)).map fun b2 => (b1, b2)

/-- FETCH and DECODE (R111, R112). The handler lookup comes before the operand bytes (D24). -/
def fetch (s : State) : Fetched :=
  match memRead s s.pc.toNat with
  | .error _ => .outside
  | .ok op =>
    if handled s.cfg.handlers op then
      match fetchOperands s op with
      | .error r => .raised op r
      | .ok (b1, b2) => .decoded (instrOf op b1 b2)
    else .raised op .unimplementedOpcode

/-- The state with these bytes where the next instruction is fetched, and a program that reaches over them: bytes that
would lie outside Memory are left out, `PROGRAM_END` is raised to the end of the longest instruction at PC where it is
lower, and the core is about to fetch (R110). DESIGN CHOICE, unsafe if taken for a step (log entry 6). -/
def placeAtPc (s : State) (bytes : List Byte) : State :=
  { s with
    mem := Memory.place s.cfg.memSize s.mem s.pc.toNat bytes
    runState := .running
    err := none
    cfg := { s.cfg with programEnd := max s.cfg.programEnd (min s.cfg.memSize (s.pc.toNat + longestInstr)) } }

end Sys2Proof.Machine
end

