-- ==== Sys2Proof/Machine/Step.lean ====
section
/-! DEFINITION. One step of the core, that is one instruction (R110, R118), and the placing of one instruction where the
next step fetches it. -/

namespace Sys2Proof.Machine

/-- `Step()` (R118). From HALT and ERROR there is no step (R117): the faults that say so are DEDUCED, safe (log entry 8). A
raised error is a next state (R110, R345): DEDUCED, safe (log entry 9). `PROGRAM_END` is tested after an instruction
only: DEDUCED, safe (log entry 17). Only a running core executes, while `exec` itself does not ask: DESIGN CHOICE, safe
(log entry 16). -/
def step (s : State) : Host.Outcome State Fault Refusal :=
  match s.runState with
  | .halt => .fault .halted
  | .error => .fault .errorStopped
  | .running =>
    match fetch s with
    | .outside => .fault .opcodeFetchOutOfBounds
    | .raised op r => .next (s.raise op r)
    | .decoded i => exec i s

/-- `s` with the instruction whose bits the table numbers as `w` stored at PC, as part of a loaded program (log entry 6):
the next step fetches and runs exactly it. -/
def State.withFetchWord (s : State) (nbits w : Nat) : State := placeAtPc s (tableBytes nbits w)

end Sys2Proof.Machine
end

