-- ==== Sys2Proof/Safety.lean ====
section
/-! DEFINITION. What counts as a good state and a safe run: the invariant every step keeps, and the runs that have not
ended in ERROR. -/

namespace Sys2Proof.Machine

/-- The configuration is one a model must accept (I11), and Memory is in canonical form within `[0, MEM_SIZE)`. -/
def State.MemoryOk (s : State) : Prop :=
  s.cfg.valid = true ∧ s.mem.wf = true ∧ s.mem.within s.cfg.memSize = true

/-- `RS` and `ERR` agree (R34, R35, R116, R345): a running core is about to fetch from the loaded program; only an error
state has a record, its PC is the address of the failed instruction, and an address is recorded exactly for an access
out of bounds, and lies outside Memory. -/
def State.RunOk (s : State) : Prop :=
  match s.runState with
  | .running => s.pc.toNat < s.cfg.programEnd ∧ s.err = none
  | .halt => s.err = none
  | .error =>
    ∃ e, s.err = some e ∧ e.pc = s.pc ∧
      match e.kind, e.addr with
      | .unimplementedOpcode, none => True
      | .outOfBoundsAccess, some a => a < 0 ∨ (s.cfg.memSize : Int) ≤ a
      | _, _ => False

/-- The invariant of the machine. -/
def State.Inv (s : State) : Prop := s.MemoryOk ∧ s.RunOk

/-- A run is safe as long as no fatal error has been raised (R345). -/
def State.Safe (s : State) : Prop := s.runState ≠ .error

end Sys2Proof.Machine
end

