-- ==== Sys2Proof/Certificates/Slice0/Obligations.lean ====
section
/-! DEFINITION. The statements for the provers. First the vocabulary they share, written from the rules on its own terms:
what a step leaves (`fallsThrough`, `goesTo`, `failsAt`), the flag values of a result, and the tables of the spec as lists
of (constructor, operands). Registers are read and written with `Regs.get` and `Regs.set`, a byte of Memory with
`Memory.read` and `Memory.write`. Record updates say the frame: a field that is not named keeps its value. -/

namespace Sys2Proof.Spec

open Sys2Proof.Machine

/-! ## What a step leaves -/

/-- An instruction of `n` bytes at `s.pc` that leaves the fall-through: PC is `npc[15:0]`, and the core halts when the
integer `npc` is at or past `PROGRAM_END` (R113, R115, R116). -/
def fallsThrough (s t : State) (n : Nat) : State :=
  { t with
    pc := BitVec.ofNat 16 (s.pc.toNat + n)
    runState := if s.cfg.programEnd ≤ s.pc.toNat + n then .halt else s.runState }

/-- An instruction that transfers control to `target` (R114 to R116). -/
def goesTo (s t : State) (target : Word) : State :=
  { t with
    pc := target
    runState := if s.cfg.programEnd ≤ target.toNat then .halt else s.runState }

/-- The state after `raise UnimplementedOpcode` (R345): only `RS` and `ERR` differ from the start of the step. -/
def failsUnhandled (s : State) (op : Byte) : State :=
  { s with
    runState := .error
    err := some { kind := .unimplementedOpcode, opcode := op, pc := s.pc, addr := none } }

/-- The state after `raise OutOfBoundsAccess(addr)` (R345). -/
def failsAt (s : State) (op : Byte) (addr : Int) : State :=
  { s with
    runState := .error
    err := some { kind := .outOfBoundsAccess, opcode := op, pc := s.pc, addr := some addr } }

/-- The errors of DECODE for an opcode with `len` operand bytes (R112, R53): where they do not fit below `MEM_SIZE`, the
step raises at the first address that is out, which is `MEM_SIZE` (0x10000 on this hardware), whatever the handler would
have done. -/
def OperandFetchTraps (op : Byte) (len : Nat) : Prop :=
  ∀ s : State, s.runState = .running → handled s.cfg.handlers op = true →
    s.pc.toNat < s.cfg.memSize → s.mem.read s.pc.toNat = op → s.cfg.memSize ≤ s.pc.toNat + len →
    step s = .next (failsAt s op s.cfg.memSize)

/-! ## Values -/

/-- The number of set bits of a byte. -/
def bitCount (r : Byte) : Nat := (Finset.univ.filter fun k : Fin 8 => r.getLsbD k = true).card

/-- The five flags with `Z S P` of the 8-bit result `r` (R120 to R123). -/
def flagsOf (r : Byte) (cy ac : Bool) : Flags :=
  { z := decide (r.toNat = 0)
    s := decide (128 ≤ r.toNat)
    p := decide (bitCount r % 2 = 0)
    cy := cy
    ac := ac }

/-- 1 or 0. -/
def bit (b : Bool) : Nat := if b then 1 else 0

/-- The address in HL (R23). -/
def hl (s : State) : Nat := 256 * s.regs.h.toNat + s.regs.l.toNat

/-- The value of the right operand of an accumulator instruction, where its address is in bounds (R86, R129). -/
def operand (s : State) : Src → Option Byte
  | .reg r => some (s.regs.get r)
  | .mem => if hl s < s.cfg.memSize then some (s.mem.read (hl s)) else none
  | .imm d8 => some d8

/-- The bytes of an accumulator instruction: `10 kkk sss`, `10 kkk 110`, or `11 kkk 110` and `d8` (R82, R83). -/
def accBytes (kkk : BitVec 3) : Src → List Byte
  | .reg r => [0b10#2 ++ kkk ++ r.code]
  | .mem => [0b10#2 ++ kkk ++ 6#3]
  | .imm d8 => [0b11#2 ++ kkk ++ 6#3, d8]

/-- What every accumulator instruction with operation `kkk` does, `result` being what it leaves for the operand value `v`:
its bytes are those of R83; with the operand in bounds it leaves `result` and falls through; else it raises at HL. -/
def AccumulatorRule (kkk : BitVec 3) (i : Instr) (src : Src) (result : State → Byte → State) : Prop :=
  encode i = accBytes kkk src ∧
    ∀ s : State,
      (∀ v, operand s src = some v → exec i s = .next (fallsThrough s (result s v) (accBytes kkk src).length)) ∧
      (operand s src = none → exec i s = .next (failsAt s (0b10#2 ++ kkk ++ 6#3) (hl s)))

/-- The state with a new accumulator and new flags. -/
def withAcc (s : State) (r : Byte) (f : Flags) : State := { s with regs := { s.regs with a := r }, flags := f }

/-- The pushed word below SP: the high byte at `SP - 1`, the low byte at `SP - 2`, SP two lower (R130). -/
def pushed (s : State) (hi lo : Byte) : State :=
  { s with
    mem := (s.mem.write (s.sp.toNat - 1) hi).write (s.sp.toNat - 2) lo
    sp := BitVec.ofNat 16 (s.sp.toNat - 2) }

/-- What an instruction that pushes {hi, lo} and then does `after` answers (R130, R342): the push needs `2 ≤ SP` and
`SP ≤ MEM_SIZE`; below 2 it raises at -1, above `MEM_SIZE` at `SP - 1`. -/
def PushRule (s : State) (i : Instr) (op hi lo : Byte) (after : State → State) : Prop :=
  (2 ≤ s.sp.toNat → s.sp.toNat ≤ s.cfg.memSize → exec i s = .next (after (pushed s hi lo))) ∧
  (s.sp.toNat < 2 → s.sp.toNat ≤ s.cfg.memSize → exec i s = .next (failsAt s op (-1))) ∧
  (s.cfg.memSize < s.sp.toNat → exec i s = .next (failsAt s op ((s.sp.toNat : Int) - 1)))

/-- What an instruction that pops and then does `after` with the two bytes answers (R131, R342): the low byte is at SP,
the high byte at `SP + 1`, SP is two higher; it raises at the first address out of bounds. -/
def PopRule (s : State) (i : Instr) (op : Byte) (after : State → Byte → Byte → State) : Prop :=
  (s.sp.toNat + 1 < s.cfg.memSize →
    exec i s = .next (after { s with sp := BitVec.ofNat 16 (s.sp.toNat + 2) }
      (s.mem.read (s.sp.toNat + 1)) (s.mem.read s.sp.toNat))) ∧
  (s.sp.toNat + 1 = s.cfg.memSize → exec i s = .next (failsAt s op ((s.sp.toNat : Int) + 1))) ∧
  (s.cfg.memSize ≤ s.sp.toNat → exec i s = .next (failsAt s op s.sp.toNat))

/-- The high byte of the return address `(PC + n)[15:0]`. -/
def returnHigh (s : State) (n : Nat) : Byte := BitVec.ofNat 8 ((s.pc.toNat + n) / 256)

/-- The low byte of the return address. -/
def returnLow (s : State) (n : Nat) : Byte := BitVec.ofNat 8 (s.pc.toNat + n)

/-- `FLAGBYTE` (R32), bit by bit: S Z 0 AC 0 P 1 CY. -/
def flagByte (f : Flags) : Byte :=
  BitVec.ofNat 8 (128 * bit f.s + 64 * bit f.z + 16 * bit f.ac + 4 * bit f.p + 2 + bit f.cy)

/-- The bytes from PC on, at most three and only those below `MEM_SIZE`. -/
def bytesAtPc (s : State) : List Byte :=
  ((List.range 3).filter fun k => s.pc.toNat + k < s.cfg.memSize).map fun k => s.mem.read (s.pc.toNat + k)

/-! ## The instructions of each shape -/

/-- MOV r1,r2: constructor, destination, source (R150). -/
def movRegForms : List (Instr × Reg × Reg) :=
  [(.movBB, .b, .b), (.movBC, .b, .c), (.movBD, .b, .d), (.movBE, .b, .e), (.movBH, .b, .h), (.movBL, .b, .l),
   (.movBA, .b, .a), (.movCB, .c, .b), (.movCC, .c, .c), (.movCD, .c, .d), (.movCE, .c, .e), (.movCH, .c, .h),
   (.movCL, .c, .l), (.movCA, .c, .a), (.movDB, .d, .b), (.movDC, .d, .c), (.movDD, .d, .d), (.movDE, .d, .e),
   (.movDH, .d, .h), (.movDL, .d, .l), (.movDA, .d, .a), (.movEB, .e, .b), (.movEC, .e, .c), (.movED, .e, .d),
   (.movEE, .e, .e), (.movEH, .e, .h), (.movEL, .e, .l), (.movEA, .e, .a), (.movHB, .h, .b), (.movHC, .h, .c),
   (.movHD, .h, .d), (.movHE, .h, .e), (.movHH, .h, .h), (.movHL, .h, .l), (.movHA, .h, .a), (.movLB, .l, .b),
   (.movLC, .l, .c), (.movLD, .l, .d), (.movLE, .l, .e), (.movLH, .l, .h), (.movLL, .l, .l), (.movLA, .l, .a),
   (.movAB, .a, .b), (.movAC, .a, .c), (.movAD, .a, .d), (.movAE, .a, .e), (.movAH, .a, .h), (.movAL, .a, .l),
   (.movAA, .a, .a)]

/-- MOV r,M (R151). -/
def movFromMemForms : List (Instr × Reg) :=
  [(.movBM, .b), (.movCM, .c), (.movDM, .d), (.movEM, .e), (.movHM, .h), (.movLM, .l), (.movAM, .a)]

/-- MOV M,r (R152). -/
def movToMemForms : List (Instr × Reg) :=
  [(.movMB, .b), (.movMC, .c), (.movMD, .d), (.movME, .e), (.movMH, .h), (.movML, .l), (.movMA, .a)]

/-- ADD and ADI with their operands (R170, R171, R178). -/
def addForms (d8 : Byte) : List (Instr × Src) :=
  [(.addB, .reg .b), (.addC, .reg .c), (.addD, .reg .d), (.addE, .reg .e), (.addH, .reg .h), (.addL, .reg .l),
   (.addA, .reg .a), (.addM, .mem), (.adi d8, .imm d8)]

/-- ADC and ACI with their operands (R172, R173, R179). -/
def adcForms (d8 : Byte) : List (Instr × Src) :=
  [(.adcB, .reg .b), (.adcC, .reg .c), (.adcD, .reg .d), (.adcE, .reg .e), (.adcH, .reg .h), (.adcL, .reg .l),
   (.adcA, .reg .a), (.adcM, .mem), (.aci d8, .imm d8)]

/-- SUB and SUI with their operands (R174, R175, R180). -/
def subForms (d8 : Byte) : List (Instr × Src) :=
  [(.subB, .reg .b), (.subC, .reg .c), (.subD, .reg .d), (.subE, .reg .e), (.subH, .reg .h), (.subL, .reg .l),
   (.subA, .reg .a), (.subM, .mem), (.sui d8, .imm d8)]

/-- SBB and SBI with their operands (R176, R177, R181). -/
def sbbForms (d8 : Byte) : List (Instr × Src) :=
  [(.sbbB, .reg .b), (.sbbC, .reg .c), (.sbbD, .reg .d), (.sbbE, .reg .e), (.sbbH, .reg .h), (.sbbL, .reg .l),
   (.sbbA, .reg .a), (.sbbM, .mem), (.sbi d8, .imm d8)]

/-- ANA and ANI with their operands (R190, R191, R198). -/
def anaForms (d8 : Byte) : List (Instr × Src) :=
  [(.anaB, .reg .b), (.anaC, .reg .c), (.anaD, .reg .d), (.anaE, .reg .e), (.anaH, .reg .h), (.anaL, .reg .l),
   (.anaA, .reg .a), (.anaM, .mem), (.ani d8, .imm d8)]

/-- XRA and XRI with their operands (R192, R193, R199). -/
def xraForms (d8 : Byte) : List (Instr × Src) :=
  [(.xraB, .reg .b), (.xraC, .reg .c), (.xraD, .reg .d), (.xraE, .reg .e), (.xraH, .reg .h), (.xraL, .reg .l),
   (.xraA, .reg .a), (.xraM, .mem), (.xri d8, .imm d8)]

/-- ORA and ORI with their operands (R194, R195, R200). -/
def oraForms (d8 : Byte) : List (Instr × Src) :=
  [(.oraB, .reg .b), (.oraC, .reg .c), (.oraD, .reg .d), (.oraE, .reg .e), (.oraH, .reg .h), (.oraL, .reg .l),
   (.oraA, .reg .a), (.oraM, .mem), (.ori d8, .imm d8)]

/-- CMP and CPI with their operands (R196, R197, R201). -/
def cmpForms (d8 : Byte) : List (Instr × Src) :=
  [(.cmpB, .reg .b), (.cmpC, .reg .c), (.cmpD, .reg .d), (.cmpE, .reg .e), (.cmpH, .reg .h), (.cmpL, .reg .l),
   (.cmpA, .reg .a), (.cmpM, .mem), (.cpi d8, .imm d8)]

/-- Jcc with its condition code and truth (R231 to R238, R128). -/
def jumpIfForms (a16 : Word) : List (Instr × BitVec 3 × (Flags → Bool)) :=
  [(.jnz a16, 0#3, fun f => !f.z), (.jz a16, 1#3, fun f => f.z), (.jnc a16, 2#3, fun f => !f.cy),
   (.jc a16, 3#3, fun f => f.cy), (.jpo a16, 4#3, fun f => !f.p), (.jpe a16, 5#3, fun f => f.p),
   (.jp a16, 6#3, fun f => !f.s), (.jm a16, 7#3, fun f => f.s)]

/-- Ccc (R290 to R297, R128). -/
def callIfForms (a16 : Word) : List (Instr × BitVec 3 × (Flags → Bool)) :=
  [(.cnz a16, 0#3, fun f => !f.z), (.cz a16, 1#3, fun f => f.z), (.cnc a16, 2#3, fun f => !f.cy),
   (.cc a16, 3#3, fun f => f.cy), (.cpo a16, 4#3, fun f => !f.p), (.cpe a16, 5#3, fun f => f.p),
   (.cp a16, 6#3, fun f => !f.s), (.cm a16, 7#3, fun f => f.s)]

/-- Rcc (R298 to R305, R128). -/
def returnIfForms : List (Instr × BitVec 3 × (Flags → Bool)) :=
  [(.rnz, 0#3, fun f => !f.z), (.rz, 1#3, fun f => f.z), (.rnc, 2#3, fun f => !f.cy), (.rc, 3#3, fun f => f.cy),
   (.rpo, 4#3, fun f => !f.p), (.rpe, 5#3, fun f => f.p), (.rp, 6#3, fun f => !f.s), (.rm, 7#3, fun f => f.s)]

/-- RST n with its number (R306). -/
def rstForms : List (Instr × BitVec 3) :=
  [(.rst0, 0#3), (.rst1, 1#3), (.rst2, 2#3), (.rst3, 3#3), (.rst4, 4#3), (.rst5, 5#3), (.rst6, 6#3),
   (.rst7, 7#3)]

/-- MVI r,d8 (R250). -/
def mviForms (d8 : Byte) : List (Instr × Reg) :=
  [(.mviB d8, .b), (.mviC d8, .c), (.mviD d8, .d), (.mviE d8, .e), (.mviH d8, .h), (.mviL d8, .l),
   (.mviA d8, .a)]

/-- INR r (R258). -/
def inrForms : List (Instr × Reg) :=
  [(.inrB, .b), (.inrC, .c), (.inrD, .d), (.inrE, .e), (.inrH, .h), (.inrL, .l), (.inrA, .a)]

/-- DCR r (R260). -/
def dcrForms : List (Instr × Reg) :=
  [(.dcrB, .b), (.dcrC, .c), (.dcrD, .d), (.dcrE, .e), (.dcrH, .h), (.dcrL, .l), (.dcrA, .a)]

/-- INX rp (R262). -/
def inxForms : List (Instr × Pair) :=
  [(.inxB, .bc), (.inxD, .de), (.inxH, .hl), (.inxSp, .sp)]

/-- DCX rp (R263). -/
def dcxForms : List (Instr × Pair) :=
  [(.dcxB, .bc), (.dcxD, .de), (.dcxH, .hl), (.dcxSp, .sp)]

/-- DAD rp (R264). -/
def dadForms : List (Instr × Pair) :=
  [(.dadB, .bc), (.dadD, .de), (.dadH, .hl), (.dadSp, .sp)]

/-- The bytes without a handler: classes P and U (R320 to R325). -/
def unhandledForms : List (Instr × Byte) :=
  [(.hlt, 0x76#8), (.inPort, 0xDB#8), (.outPort, 0xD3#8), (.di, 0xF3#8), (.ei, 0xFB#8), (.undoc08, 0x08#8),
   (.undoc10, 0x10#8), (.undoc18, 0x18#8), (.undoc20, 0x20#8), (.undoc28, 0x28#8), (.undoc30, 0x30#8),
   (.undoc38, 0x38#8), (.undocCB, 0xCB#8), (.undocD9, 0xD9#8), (.undocDD, 0xDD#8), (.undocED, 0xED#8),
   (.undocFD, 0xFD#8)]

/-! ## Whole-machine tables -/

/-- The addresses an instruction stores to, computed as its meaning computes them (R51): data writes at HL, BC, DE or a
direct address, the two stack bytes of a push, a call that is taken, and XTHL. Every other instruction stores nothing. -/
def storedAt (i : Instr) (s : State) : List Int :=
  match i with
  | .movMB | .movMC | .movMD | .movME | .movMH | .movML | .movMA | .mviM _ | .inrM | .dcrM => [s.addrM]
  | .staxB => [s.pairAddr .bc]
  | .staxD => [s.pairAddr .de]
  | .sta a16 => [(a16.toNat : Int)]
  | .shld a16 => [(a16.toNat : Int), (a16.toNat : Int) + 1]
  | .xthl => [(s.sp.toNat : Int), (s.sp.toNat : Int) + 1]
  | .pushB | .pushD | .pushH | .pushPsw | .call _ | .rst0 | .rst1 | .rst2 | .rst3 | .rst4 | .rst5 | .rst6
  | .rst7 => [(s.sp.toNat : Int) - 1, (s.sp.toNat : Int) - 2]
  | .cnz _ => if !s.flags.z then [(s.sp.toNat : Int) - 1, (s.sp.toNat : Int) - 2] else []
  | .cz _ => if s.flags.z then [(s.sp.toNat : Int) - 1, (s.sp.toNat : Int) - 2] else []
  | .cnc _ => if !s.flags.cy then [(s.sp.toNat : Int) - 1, (s.sp.toNat : Int) - 2] else []
  | .cc _ => if s.flags.cy then [(s.sp.toNat : Int) - 1, (s.sp.toNat : Int) - 2] else []
  | .cpo _ => if !s.flags.p then [(s.sp.toNat : Int) - 1, (s.sp.toNat : Int) - 2] else []
  | .cpe _ => if s.flags.p then [(s.sp.toNat : Int) - 1, (s.sp.toNat : Int) - 2] else []
  | .cp _ => if !s.flags.s then [(s.sp.toNat : Int) - 1, (s.sp.toNat : Int) - 2] else []
  | .cm _ => if s.flags.s then [(s.sp.toNat : Int) - 1, (s.sp.toNat : Int) - 2] else []
  | _ => []

/-- The flags an instruction writes (R31): `true` where the table has "write". -/
def flagsWritten (i : Instr) : Flags :=
  match i with
  | .addB | .addC | .addD | .addE | .addH | .addL | .addA | .addM | .adcB | .adcC | .adcD | .adcE | .adcH
  | .adcL | .adcA | .adcM | .subB | .subC | .subD | .subE | .subH | .subL | .subA | .subM | .sbbB | .sbbC
  | .sbbD | .sbbE | .sbbH | .sbbL | .sbbA | .sbbM | .adi _ | .aci _ | .sui _ | .sbi _ | .anaB | .anaC | .anaD
  | .anaE | .anaH | .anaL | .anaA | .anaM | .xraB | .xraC | .xraD | .xraE | .xraH | .xraL | .xraA | .xraM
  | .oraB | .oraC | .oraD | .oraE | .oraH | .oraL | .oraA | .oraM | .ani _ | .xri _ | .ori _ | .popPsw | .daa =>
    { z := true, s := true, p := true, cy := true, ac := true }
  | .cmpB | .cmpC | .cmpD | .cmpE | .cmpH | .cmpL | .cmpA | .cmpM | .cpi _ =>
    { z := true, s := true, p := true, cy := true, ac := false }
  | .inrB | .inrC | .inrD | .inrE | .inrH | .inrL | .inrA | .inrM | .dcrB | .dcrC | .dcrD | .dcrE | .dcrH
  | .dcrL | .dcrA | .dcrM => { z := true, s := true, p := true, cy := false, ac := true }
  | .rlc | .rrc | .ral | .rar | .dadB | .dadD | .dadH | .dadSp | .stc | .cmc =>
    { z := false, s := false, p := false, cy := true, ac := false }
  | _ => { z := false, s := false, p := false, cy := false, ac := false }

/-- The byte registers an instruction may write: its destination, or the two halves of its destination pair. -/
def destRegs (i : Instr) : List Reg :=
  match i with
  | .movBB | .movBC | .movBD | .movBE | .movBH | .movBL | .movBA | .movBM | .mviB _ | .inrB | .dcrB => [.b]
  | .movCB | .movCC | .movCD | .movCE | .movCH | .movCL | .movCA | .movCM | .mviC _ | .inrC | .dcrC => [.c]
  | .movDB | .movDC | .movDD | .movDE | .movDH | .movDL | .movDA | .movDM | .mviD _ | .inrD | .dcrD => [.d]
  | .movEB | .movEC | .movED | .movEE | .movEH | .movEL | .movEA | .movEM | .mviE _ | .inrE | .dcrE => [.e]
  | .movHB | .movHC | .movHD | .movHE | .movHH | .movHL | .movHA | .movHM | .mviH _ | .inrH | .dcrH => [.h]
  | .movLB | .movLC | .movLD | .movLE | .movLH | .movLL | .movLA | .movLM | .mviL _ | .inrL | .dcrL => [.l]
  | .movAB | .movAC | .movAD | .movAE | .movAH | .movAL | .movAA | .movAM | .ldaxB | .ldaxD | .addB | .addC
  | .addD | .addE | .addH | .addL | .addA | .addM | .adcB | .adcC | .adcD | .adcE | .adcH | .adcL | .adcA
  | .adcM | .subB | .subC | .subD | .subE | .subH | .subL | .subA | .subM | .sbbB | .sbbC | .sbbD | .sbbE
  | .sbbH | .sbbL | .sbbA | .sbbM | .adi _ | .aci _ | .sui _ | .sbi _ | .anaB | .anaC | .anaD | .anaE | .anaH
  | .anaL | .anaA | .anaM | .xraB | .xraC | .xraD | .xraE | .xraH | .xraL | .xraA | .xraM | .oraB | .oraC
  | .oraD | .oraE | .oraH | .oraL | .oraA | .oraM | .ani _ | .xri _ | .ori _ | .rlc | .rrc | .ral | .rar
  | .cma | .popPsw | .mviA _ | .lda _ | .inrA | .dcrA | .daa => [.a]
  | .lxiB _ | .popB | .inxB | .dcxB => [.b, .c]
  | .lxiD _ | .popD | .inxD | .dcxD => [.d, .e]
  | .lxiH _ | .popH | .lhld _ | .xthl | .inxH | .dcxH | .dadB | .dadD | .dadH | .dadSp => [.h, .l]
  | .xchg => [.d, .e, .h, .l]
  | _ => []

/-- The instructions that may write SP (R28). -/
def writesSp (i : Instr) : Bool :=
  match i with
  | .lxiSp _ | .pushB | .pushD | .pushH | .pushPsw | .popB | .popD | .popH | .popPsw | .call _ | .ret
  | .inxSp | .dcxSp | .sphl | .cnz _ | .cz _ | .cnc _ | .cc _ | .cpo _ | .cpe _ | .cp _ | .cm _ | .rnz | .rz
  | .rnc | .rc | .rpo | .rpe | .rp | .rm | .rst0 | .rst1 | .rst2 | .rst3 | .rst4 | .rst5 | .rst6 | .rst7 => true
  | _ => false

/-- Whether an instruction pushes in this state: PUSH, CALL, RST, and a conditional call that is taken (R51). -/
def pushes (i : Instr) (s : State) : Bool :=
  match i with
  | .pushB | .pushD | .pushH | .pushPsw | .call _ | .rst0 | .rst1 | .rst2 | .rst3 | .rst4 | .rst5 | .rst6
  | .rst7 => true
  | .cnz _ => !s.flags.z
  | .cz _ => s.flags.z
  | .cnc _ => !s.flags.cy
  | .cc _ => s.flags.cy
  | .cpo _ => !s.flags.p
  | .cpe _ => s.flags.p
  | .cp _ => !s.flags.s
  | .cm _ => s.flags.s
  | _ => false

/-- Whether an instruction reads the word at SP in this state: POP, RET, XTHL, and a conditional return that is taken
(R51). -/
def popsTop (i : Instr) (s : State) : Bool :=
  match i with
  | .popB | .popD | .popH | .popPsw | .ret | .xthl => true
  | .rnz => !s.flags.z
  | .rz => s.flags.z
  | .rnc => !s.flags.cy
  | .rc => s.flags.cy
  | .rpo => !s.flags.p
  | .rpe => s.flags.p
  | .rp => !s.flags.s
  | .rm => s.flags.s
  | _ => false

/-- LHLD or SHLD at 0xFFFF, whose second byte is out of bounds (R53). -/
def straddlesTop (i : Instr) : Bool :=
  match i with
  | .lhld a16 | .shld a16 => a16 == 0xFFFF#16
  | _ => false

end Sys2Proof.Spec

open Sys2Proof Sys2Proof.Machine Sys2Proof.Spec

/-! # Encoding -/

/-- Decoding an encoded instruction gives it back, whatever bytes follow (R80, R81, R83, R85, R87): no bit of an encoding
is dropped, for every instruction and every operand value. -/
def Obligations.DecodeOfEncodeIsTheInstruction : Prop :=
  ∀ (i : Instr) (rest : List Byte), decode (encode i ++ rest) = .ok (i, rest)

/-- Whatever the decoder reads, its bytes are the encoding of what it gives: every byte sequence has one meaning (R98). -/
def Obligations.EncodeOfDecodeIsTheBytes : Prop :=
  ∀ (bytes rest : List Byte) (i : Instr), decode bytes = .ok (i, rest) → bytes = encode i ++ rest

/-- Decoding is total (R98): a byte list is refused only when it ends before the operand bytes its first byte asks for;
there is no byte value and no operand value the decoder cannot classify. That decoding is total is the spec's own inference
("[derived: from rule R95]"). -/
def Obligations.DecodeRefusesOnlyShortInput : Prop :=
  ∀ (bytes : List Byte) (e : DecodeError),
    decode bytes = .error e ↔
      (bytes = [] ∧ e = .noBytes) ∨
        ∃ op rest, bytes = op :: rest ∧ rest.length < operandLength op ∧ e = .missingOperand op

/-- The census of R95: 168 + 71 + 5 + 12 = 256 byte values, each in one class, and the 239 of `F ∪ X` are the handled
ones (R9). -/
def Obligations.OpcodeClassesHaveTheirSizes : Prop :=
  (Finset.univ.filter fun op : Fin 256 => opClass (BitVec.ofFin op) = .f).card = 168 ∧
  (Finset.univ.filter fun op : Fin 256 => opClass (BitVec.ofFin op) = .x).card = 71 ∧
  (Finset.univ.filter fun op : Fin 256 => opClass (BitVec.ofFin op) = .p).card = 5 ∧
  (Finset.univ.filter fun op : Fin 256 => opClass (BitVec.ofFin op) = .u).card = 12 ∧
  (Finset.univ.filter fun op : Fin 256 => handled .full (BitVec.ofFin op) = true).card = 239 ∧
  (Finset.univ.filter fun op : Fin 256 => handled .documented (BitVec.ofFin op) = true).card = 168

/-- Words written out from the spec's encodings decode to the instructions they stand for, one of each family at least:
`C3 34 12` is JMP 0x1234 (R100), `41` MOV B,C, `21 34 12` LXI H,0x1234, `86` ADD M, `E6 0F` ANI 0x0F, `BB` CMP E, `1F` RAR,
`F5` PUSH PSW, `C9` RET, `22 0A 01` SHLD 0x010A, `CC 50 00` CZ 0x0050, `D7` RST 2, `76` HLT, `08` undocumented. -/
def Obligations.WrittenWordsDecode : Prop :=
  decode [0xC3#8, 0x34#8, 0x12#8] = .ok (.jmp 0x1234#16, []) ∧
  decode [0x41#8] = .ok (.movBC, []) ∧
  decode [0x21#8, 0x34#8, 0x12#8] = .ok (.lxiH 0x1234#16, []) ∧
  decode [0x86#8] = .ok (.addM, []) ∧
  decode [0xE6#8, 0x0F#8] = .ok (.ani 0x0F#8, []) ∧
  decode [0xBB#8] = .ok (.cmpE, []) ∧
  decode [0x1F#8] = .ok (.rar, []) ∧
  decode [0xF5#8] = .ok (.pushPsw, []) ∧
  decode [0xC9#8] = .ok (.ret, []) ∧
  decode [0x22#8, 0x0A#8, 0x01#8] = .ok (.shld 0x010A#16, []) ∧
  decode [0xCC#8, 0x50#8, 0x00#8] = .ok (.cz 0x0050#16, []) ∧
  decode [0xD7#8] = .ok (.rst2, []) ∧
  decode [0x76#8] = .ok (.hlt, []) ∧
  decode [0x08#8] = .ok (.undoc08, [])

/-! # Flag functions -/

/-- R121: Parity is true iff the number of set bits is even. -/
def Obligations.ParityIsEvenBitCount : Prop :=
  ∀ r : Byte, parity8 r = true ↔ Even (bitCount r)

/-- R124: the adder's byte and carry are the nine bits of the three-input sum, and its auxiliary carry is the carry out of
bit 3, that is the sum of the low nibbles exceeds 15; equivalently bit 4 of a ^ b ^ r. That the carry-in takes part in
both carries is the spec's own inference ("With a carry-in the carry-in takes part in both"), and the bit-4 form is the
model's consequence: DEDUCED, log entry 14. -/
def Obligations.AdderGivesSumAndCarries : Prop :=
  ∀ (a b : Byte) (cin : Bool),
    (add8 a b cin).r.toNat + 256 * bit (add8 a b cin).cy = a.toNat + b.toNat + bit cin ∧
    ((add8 a b cin).ac = true ↔ 0x0F < a.toNat % 16 + b.toNat % 16 + bit cin) ∧
    (add8 a b cin).ac = (a ^^^ b ^^^ (add8 a b cin).r).getLsbD 4

/-- R125 with D20: the subtractor's byte and borrow balance the integer difference, and its auxiliary carry is the borrow
out of the low nibble; both carries are 1 when a borrow occurs. The last clause, that the auxiliary carry is bit 4 of
a ^ b ^ r, is not in R125: it is the model's consequence, DEDUCED, log entry 14. -/
def Obligations.SubtractorGivesDifferenceAndBorrows : Prop :=
  ∀ (a b : Byte) (bin : Bool),
    (sub8 a b bin).r.toNat + b.toNat + bit bin = a.toNat + 256 * bit (sub8 a b bin).cy ∧
    ((sub8 a b bin).cy = true ↔ a.toNat < b.toNat + bit bin) ∧
    ((sub8 a b bin).ac = true ↔ a.toNat % 16 < b.toNat % 16 + bit bin) ∧
    (sub8 a b bin).ac = (a ^^^ b ^^^ (sub8 a b bin).r).getLsbD 4

/-- R32, R33: `FLAGBYTE` has the layout S Z 0 AC 0 P 1 CY; packing then unpacking restores all five flags, and unpacking
then packing turns a byte `f` into `(f & 0xD5) | 0x02`. -/
def Obligations.FlagByteRoundTrips : Prop :=
  (∀ f : Flags, f.pack = flagByte f ∧ Flags.unpack f.pack = f) ∧
  (∀ v : Byte,
    Flags.unpack v =
      { s := v.getLsbD 7, z := v.getLsbD 6, ac := v.getLsbD 4, p := v.getLsbD 2, cy := v.getLsbD 0 } ∧
    (Flags.unpack v).pack = (v &&& 0xD5#8) ||| 0x02#8)

/-! # The step -/

/-- A step runs the decoded instruction: when the bytes from PC on decode to `i`, the step of a running core is `exec i` on
that state. The handler lookup comes first (R112), and `exec` of an instruction without a handler raises the same error, so
this holds in every handler set. -/
def Obligations.StepRunsTheDecodedInstruction : Prop :=
  ∀ (s : State) (i : Instr) (rest : List Byte),
    s.runState = .running → s.pc.toNat < s.cfg.memSize → decode (bytesAtPc s) = .ok (i, rest) →
    step s = exec i s

/-- R341, R112: a running core that fetches a byte without a handler raises `UnimplementedOpcode`, whatever bytes follow
(or none do): no operand byte is read, PC keeps the address of the byte, and nothing but `RS` and `ERR` changes. -/
def Obligations.UnhandledOpcodeIsFatal : Prop :=
  ∀ s : State, s.runState = .running → s.pc.toNat < s.cfg.memSize →
    handled s.cfg.handlers (s.mem.read s.pc.toNat) = false →
    step s = .next (failsUnhandled s (s.mem.read s.pc.toNat))

/-- R112, R347: when the operand bytes of a handled opcode do not fit below `MEM_SIZE`, the step raises
`OutOfBoundsAccess` at the first address that is out, whatever the instruction is: a conditional jump that would not be
taken too. -/
def Obligations.OperandFetchOutOfBoundsIsFatal : Prop :=
  ∀ op : Byte, OperandFetchTraps op (operandLength op)

/-- R117: from HALT and from ERROR there is no step. -/
def Obligations.TerminalStatesHaveNoStep : Prop :=
  ∀ s t : State, s.runState = .halt ∨ s.runState = .error → step s ≠ .next t

/-- R110: a step is possible whenever `RS = RUNNING`: from every running state that meets the invariant the step answers a
next state, never a fault or a refusal, and its outcome is RUNNING, HALT, or ERROR with nothing else changed. -/
def Obligations.RunningCoreTakesAStep : Prop :=
  ∀ s : State, s.Inv → s.runState = .running →
    ∃ t, step s = .next t ∧
      (t.runState = .running ∨ t.runState = .halt ∨
        ∃ e, t = { s with runState := .error, err := some e } ∧ e.pc = s.pc ∧ e.opcode = s.mem.read s.pc.toNat)

/-- The invariant (Safety.lean) is kept by every step: the configuration stays acceptable, Memory keeps its canonical form
within `[0, MEM_SIZE)`, a running core is about to fetch from the loaded program (R116), and `RS` and `ERR` agree (R34,
R35), an out-of-bounds record naming an address outside Memory. -/
def Obligations.StepKeepsTheInvariant : Prop :=
  ∀ s t : State, s.Inv → step s = .next t → t.Inv

/-- The state after reset meets the invariant. The registers, SP and flags of `State.reset` are the model's choice (log
entries 2 to 4) and the invariant does not speak of them. -/
def Obligations.ResetMeetsTheInvariant : Prop := State.reset.Inv

/-- R370, R373: reset with a loaded program, for every image, every other memory content and every initial value of the
registers. PC is 0, no error is recorded, `RS` is HALT when the image is empty and else RUNNING, Memory holds the image
from address 0, and the state meets the invariant; a configuration the loader must not make is refused (I11, R373: there
is no run). The refusal by name is DEDUCED and the reading of a list of cells as `INIT_MEM` (cells outside Memory are left
out, the first cell of an address counts) is the model's choice, log entry 11; that reset is `boot` alone is DEDUCED, log
entry 10. -/
def Obligations.BootLeavesTheResetState : Prop :=
  ∀ (memSize : Nat) (hs : HandlerSet) (image : List Byte) (rest : List Host.Cell) (init : InitState),
    (1 ≤ memSize → memSize ≤ 65536 → image.length ≤ memSize →
      ∃ s, boot memSize hs image rest init = .next s ∧
        s.pc = 0x0000#16 ∧ s.err = none ∧ s.regs = init.regs ∧ s.sp = init.sp ∧ s.flags = init.flags ∧
        s.cfg = { memSize := memSize, programEnd := image.length, handlers := hs } ∧
        s.runState = (if image.length = 0 then .halt else .running) ∧
        (∀ (a : Nat) (h : a < image.length), s.mem.read a = image[a]) ∧
        (∀ a : Nat, image.length ≤ a → a < memSize → s.mem.read a = (Memory.ofCells memSize rest).read a) ∧
        s.Inv) ∧
    (memSize = 0 ∨ 65536 < memSize ∨ memSize < image.length →
      boot memSize hs image rest init = .refused .badConfiguration)

/-! # Errors -/

/-- R346 (with the record of R345): errors are precise. When a step or an instruction raises, the next state is the
start-of-step state with `RS` and `ERR` written and nothing else: no register, flag, SP, PC or memory byte differs; `ERR`
holds the instruction's opcode and its PC. -/
def Obligations.ErrorsArePrecise : Prop :=
  (∀ s t : State, step s = .next t → t.runState = .error →
    ∃ e, t = { s with runState := .error, err := some e } ∧ e.opcode = s.mem.read s.pc.toNat ∧ e.pc = s.pc) ∧
  ∀ (i : Instr) (s t : State), s.runState ≠ .error → exec i s = .next t → t.runState = .error →
    ∃ e, t = { s with runState := .error, err := some e } ∧ e.opcode = i.opcode ∧ e.pc = s.pc

/-- R342, R53: with `MEM_SIZE = 65536` the handled instructions that raise are exactly these: a push with SP below 2 (at
-1), a pop or XTHL with SP = 0xFFFF, and LHLD or SHLD at 0xFFFF (at 0x10000). -/
def Obligations.OutOfBoundsCasesAreTheseOnly : Prop :=
  ∀ (i : Instr) (s : State), s.cfg.memSize = 65536 → handled s.cfg.handlers i.opcode = true →
    s.runState ≠ .error →
    (pushes i s = true ∧ s.sp.toNat < 2 → exec i s = .next (failsAt s i.opcode (-1))) ∧
    ((popsTop i s = true ∧ s.sp = 0xFFFF#16) ∨ straddlesTop i = true →
      exec i s = .next (failsAt s i.opcode 0x10000)) ∧
    (¬ (pushes i s = true ∧ s.sp.toNat < 2) →
      ¬ ((popsTop i s = true ∧ s.sp = 0xFFFF#16) ∨ straddlesTop i = true) →
      ∃ t, exec i s = .next t ∧ t.runState ≠ .error)

/-- R326: with `HANDLER_SET = F` every class X instruction is `UnimplementedOpcode`. -/
def Obligations.ClassXIsFatalInTheDocumentedSet : Prop :=
  ∀ (i : Instr) (s : State), i.opClass = .x → s.cfg.handlers = .documented →
    exec i s = .next (failsUnhandled s i.opcode)

/-- R320 to R325, R95: HLT, IN, OUT, DI, EI and the twelve undocumented bytes raise `UnimplementedOpcode` in every handler
set; they have no length and none acts as a no-op. -/
def Obligations.UnhandledInstructionsRaise : Prop :=
  ∀ f ∈ unhandledForms, ∀ s : State,
    encode f.1 = [f.2] ∧ handled s.cfg.handlers f.2 = false ∧ exec f.1 s = .next (failsUnhandled s f.2)

/-! # Frames: what an instruction leaves unchanged -/

/-- R51, R55: an instruction changes no byte of Memory outside the addresses it stores to; most store nothing. -/
def Obligations.MemoryChangesOnlyWhereStored : Prop :=
  ∀ (i : Instr) (s t : State), exec i s = .next t →
    ∀ a : Nat, (a : Int) ∉ storedAt i s → t.mem.read a = s.mem.read a

/-- R31: an instruction keeps every flag its row of the table does not write. -/
def Obligations.FlagsChangeOnlyWhereWritten : Prop :=
  ∀ (i : Instr) (s t : State), exec i s = .next t →
    ((flagsWritten i).z = false → t.flags.z = s.flags.z) ∧
    ((flagsWritten i).s = false → t.flags.s = s.flags.s) ∧
    ((flagsWritten i).p = false → t.flags.p = s.flags.p) ∧
    ((flagsWritten i).cy = false → t.flags.cy = s.flags.cy) ∧
    ((flagsWritten i).ac = false → t.flags.ac = s.flags.ac)

/-- R20, R28: an instruction changes no byte register but its destination, and SP only where the spec says so. -/
def Obligations.RegistersChangeOnlyWhereNamed : Prop :=
  ∀ (i : Instr) (s t : State), exec i s = .next t →
    (∀ r : Reg, r ∉ destRegs i → t.regs.get r = s.regs.get r) ∧
    (writesSp i = false → t.sp = s.sp)

/-- R36, R39: no instruction changes the configuration, and `ERR` changes only when `RS` becomes ERROR. That the
configuration stands in State is the model's choice (log entry 5). -/
def Obligations.ConfigurationIsConstant : Prop :=
  ∀ (i : Instr) (s t : State), exec i s = .next t →
    t.cfg = s.cfg ∧ (t.runState ≠ .error → t.err = s.err)

/-- R31: AuxiliaryCarry is read by PUSH PSW and DAA only. For every other instruction, two states that differ in `AC` alone
lead to states that differ in `AC` at most. -/
def Obligations.AuxiliaryCarryIsReadOnlyByPushPswAndDaa : Prop :=
  ∀ (i : Instr) (s t : State) (ac : Bool), i ≠ .pushPsw → i ≠ .daa → exec i s = .next t →
    ∃ t', exec i { s with flags := { s.flags with ac := ac } } = .next t' ∧
      t' = { t with flags := { t.flags with ac := t'.flags.ac } }

/-! # Data movement -/

/-- R150. -/
def Obligations.MovCopiesARegister : Prop :=
  ∀ f ∈ movRegForms, ∀ s : State,
    encode f.1 = [0b01#2 ++ f.2.1.code ++ f.2.2.code] ∧
    exec f.1 s = .next (fallsThrough s { s with regs := s.regs.set f.2.1 (s.regs.get f.2.2) } 1)

/-- R151. -/
def Obligations.MovLoadsFromHL : Prop :=
  ∀ f ∈ movFromMemForms, ∀ s : State,
    encode f.1 = [0b01#2 ++ f.2.code ++ 6#3] ∧
    (hl s < s.cfg.memSize →
      exec f.1 s = .next (fallsThrough s { s with regs := s.regs.set f.2 (s.mem.read (hl s)) } 1)) ∧
    (s.cfg.memSize ≤ hl s → exec f.1 s = .next (failsAt s (0b01#2 ++ f.2.code ++ 6#3) (hl s)))

/-- R152. -/
def Obligations.MovStoresToHL : Prop :=
  ∀ f ∈ movToMemForms, ∀ s : State,
    encode f.1 = [0b01#2 ++ 6#3 ++ f.2.code] ∧
    (hl s < s.cfg.memSize →
      exec f.1 s = .next (fallsThrough s { s with mem := s.mem.write (hl s) (s.regs.get f.2) } 1)) ∧
    (s.cfg.memSize ≤ hl s → exec f.1 s = .next (failsAt s (0b01#2 ++ 6#3 ++ f.2.code) (hl s)))

/-- R153, R154: LDAX and STAX through BC or DE. -/
def Obligations.LdaxAndStaxUseTheNamedPair : Prop :=
  ∀ f ∈ ([(.ldaxB, .staxB, .bc), (.ldaxD, .staxD, .de)] : List (Instr × Instr × Pair)), ∀ s : State,
    encode f.1 = [0b00#2 ++ f.2.2.code ++ 0b1010#4] ∧ encode f.2.1 = [0b00#2 ++ f.2.2.code ++ 0b0010#4] ∧
    ((s.pair f.2.2).toNat < s.cfg.memSize →
      exec f.1 s =
          .next (fallsThrough s { s with regs := { s.regs with a := s.mem.read (s.pair f.2.2).toNat } } 1) ∧
        exec f.2.1 s = .next (fallsThrough s { s with mem := s.mem.write (s.pair f.2.2).toNat s.regs.a } 1)) ∧
    (s.cfg.memSize ≤ (s.pair f.2.2).toNat →
      exec f.1 s = .next (failsAt s (0b00#2 ++ f.2.2.code ++ 0b1010#4) (s.pair f.2.2).toNat) ∧
        exec f.2.1 s = .next (failsAt s (0b00#2 ++ f.2.2.code ++ 0b0010#4) (s.pair f.2.2).toNat))

/-- R155, R156: the high register takes byte 2 and the low register byte 1; SP takes `256 * b2 + b1`. -/
def Obligations.LxiLoadsThePair : Prop :=
  ∀ (s : State) (b1 b2 : Byte),
    (encode (.lxiB (wordOf b2 b1)) = [0x01#8, b1, b2] ∧
      exec (.lxiB (wordOf b2 b1)) s = .next (fallsThrough s { s with regs := { s.regs with b := b2, c := b1 } } 3)) ∧
    (encode (.lxiD (wordOf b2 b1)) = [0x11#8, b1, b2] ∧
      exec (.lxiD (wordOf b2 b1)) s = .next (fallsThrough s { s with regs := { s.regs with d := b2, e := b1 } } 3)) ∧
    (encode (.lxiH (wordOf b2 b1)) = [0x21#8, b1, b2] ∧
      exec (.lxiH (wordOf b2 b1)) s = .next (fallsThrough s { s with regs := { s.regs with h := b2, l := b1 } } 3)) ∧
    (encode (.lxiSp (wordOf b2 b1)) = [0x31#8, b1, b2] ∧
      exec (.lxiSp (wordOf b2 b1)) s =
        .next (fallsThrough s { s with sp := BitVec.ofNat 16 (256 * b2.toNat + b1.toNat) } 3)) ∧
    OperandFetchTraps 0x01#8 2 ∧ OperandFetchTraps 0x11#8 2 ∧ OperandFetchTraps 0x21#8 2 ∧ OperandFetchTraps 0x31#8 2

/-! # Arithmetic -/

/-- R170, R171, R178 with R124: `A <- (A + v) mod 256`, Carry out of bit 7, AuxiliaryCarry out of bit 3. -/
def Obligations.AddGivesTheSum : Prop :=
  (∀ d8 : Byte, ∀ f ∈ addForms d8,
    AccumulatorRule 0#3 f.1 f.2 fun s v =>
      withAcc s (s.regs.a + v)
        (flagsOf (s.regs.a + v) (decide (255 < s.regs.a.toNat + v.toNat))
          (decide (15 < s.regs.a.toNat % 16 + v.toNat % 16)))) ∧
  OperandFetchTraps 0xC6#8 1

/-- R172, R173, R179 with R124: the carry-in takes part in the sum and in both carries. -/
def Obligations.AdcAddsTheCarry : Prop :=
  (∀ d8 : Byte, ∀ f ∈ adcForms d8,
    AccumulatorRule 1#3 f.1 f.2 fun s v =>
      withAcc s (BitVec.ofNat 8 (s.regs.a.toNat + v.toNat + bit s.flags.cy))
        (flagsOf (BitVec.ofNat 8 (s.regs.a.toNat + v.toNat + bit s.flags.cy))
          (decide (255 < s.regs.a.toNat + v.toNat + bit s.flags.cy))
          (decide (15 < s.regs.a.toNat % 16 + v.toNat % 16 + bit s.flags.cy)))) ∧
  OperandFetchTraps 0xCE#8 1

/-- R174, R175, R180 with R125: `CY = 1` iff `A < v`, `AC = 1` iff `A[3:0] < v[3:0]`. -/
def Obligations.SubGivesTheDifference : Prop :=
  (∀ d8 : Byte, ∀ f ∈ subForms d8,
    AccumulatorRule 2#3 f.1 f.2 fun s v =>
      withAcc s (s.regs.a - v)
        (flagsOf (s.regs.a - v) (decide (s.regs.a.toNat < v.toNat))
          (decide (s.regs.a.toNat % 16 < v.toNat % 16)))) ∧
  OperandFetchTraps 0xD6#8 1

/-- R176, R177, R181 with R125: the subtrahend is `v + CY` as an integer, up to 256. -/
def Obligations.SbbSubtractsTheBorrow : Prop :=
  (∀ d8 : Byte, ∀ f ∈ sbbForms d8,
    AccumulatorRule 3#3 f.1 f.2 fun s v =>
      withAcc s (BitVec.ofNat 8 (s.regs.a.toNat + 512 - (v.toNat + bit s.flags.cy)))
        (flagsOf (BitVec.ofNat 8 (s.regs.a.toNat + 512 - (v.toNat + bit s.flags.cy)))
          (decide (s.regs.a.toNat < v.toNat + bit s.flags.cy))
          (decide (s.regs.a.toNat % 16 < v.toNat % 16 + bit s.flags.cy)))) ∧
  OperandFetchTraps 0xDE#8 1

/-! # Logic and compare -/

/-- R190, R191, R198 with R126: Carry is cleared, AuxiliaryCarry is the OR of the two bit-3 values. -/
def Obligations.AnaAndsTheAccumulator : Prop :=
  (∀ d8 : Byte, ∀ f ∈ anaForms d8,
    AccumulatorRule 4#3 f.1 f.2 fun s v =>
      withAcc s (s.regs.a &&& v)
        (flagsOf (s.regs.a &&& v) false (s.regs.a.getLsbD 3 || v.getLsbD 3))) ∧
  OperandFetchTraps 0xE6#8 1

/-- R192, R193, R199 with R126: Carry and AuxiliaryCarry are cleared. -/
def Obligations.XraXorsTheAccumulator : Prop :=
  (∀ d8 : Byte, ∀ f ∈ xraForms d8,
    AccumulatorRule 5#3 f.1 f.2 fun s v =>
      withAcc s (s.regs.a ^^^ v) (flagsOf (s.regs.a ^^^ v) false false)) ∧
  OperandFetchTraps 0xEE#8 1

/-- R194, R195, R200 with R126: Carry and AuxiliaryCarry are cleared. -/
def Obligations.OraOrsTheAccumulator : Prop :=
  (∀ d8 : Byte, ∀ f ∈ oraForms d8,
    AccumulatorRule 6#3 f.1 f.2 fun s v =>
      withAcc s (s.regs.a ||| v) (flagsOf (s.regs.a ||| v) false false)) ∧
  OperandFetchTraps 0xF6#8 1

/-- R196, R197, R201 with R127: the flags of `A - v`, AuxiliaryCarry kept, no register written. -/
def Obligations.CmpComparesWithoutStoring : Prop :=
  (∀ d8 : Byte, ∀ f ∈ cmpForms d8,
    AccumulatorRule 7#3 f.1 f.2 fun s v =>
      { s with flags := flagsOf (s.regs.a - v) (decide (s.regs.a.toNat < v.toNat)) s.flags.ac }) ∧
  OperandFetchTraps 0xFE#8 1

/-! # Rotate, complement, no-op -/

/-- R210 to R213: the accumulator moves one bit; the two plain rotates bring the ejected bit around, the two others bring
in the old Carry; Carry takes the ejected bit; `Z S P AC` are kept. -/
def Obligations.RotatesMoveOneBit : Prop :=
  (encode .rlc = [0x07#8] ∧ encode .rrc = [0x0F#8] ∧ encode .ral = [0x17#8] ∧ encode .rar = [0x1F#8]) ∧
  ∀ s : State,
    exec .rlc s =
      .next (fallsThrough s
        (withAcc s (BitVec.ofNat 8 (2 * s.regs.a.toNat + s.regs.a.toNat / 128))
          { s.flags with cy := decide (128 ≤ s.regs.a.toNat) }) 1) ∧
    exec .rrc s =
      .next (fallsThrough s
        (withAcc s (BitVec.ofNat 8 (s.regs.a.toNat / 2 + 128 * (s.regs.a.toNat % 2)))
          { s.flags with cy := decide (s.regs.a.toNat % 2 = 1) }) 1) ∧
    exec .ral s =
      .next (fallsThrough s
        (withAcc s (BitVec.ofNat 8 (2 * s.regs.a.toNat + bit s.flags.cy))
          { s.flags with cy := decide (128 ≤ s.regs.a.toNat) }) 1) ∧
    exec .rar s =
      .next (fallsThrough s
        (withAcc s (BitVec.ofNat 8 (s.regs.a.toNat / 2 + 128 * bit s.flags.cy))
          { s.flags with cy := decide (s.regs.a.toNat % 2 = 1) }) 1)

/-- R214, R215: CMA complements the accumulator and writes no flag; NOP changes nothing but PC. -/
def Obligations.CmaAndNopWriteNoFlag : Prop :=
  (encode .cma = [0x2F#8] ∧ encode .nop = [0x00#8]) ∧
  ∀ s : State,
    exec .cma s =
      .next (fallsThrough s { s with regs := { s.regs with a := BitVec.ofNat 8 (255 - s.regs.a.toNat) } } 1) ∧
    exec .nop s = .next (fallsThrough s s 1)

/-! # Stack -/

/-- R220, R221 with R130, R32: the high byte is the first-named register, or A; the low byte is the second, or
`FLAGBYTE`. -/
def Obligations.PushStoresThePair : Prop :=
  (encode .pushB = [0xC5#8] ∧ encode .pushD = [0xD5#8] ∧ encode .pushH = [0xE5#8] ∧ encode .pushPsw = [0xF5#8]) ∧
  ∀ s : State,
    PushRule s .pushB 0xC5#8 s.regs.b s.regs.c (fun t => fallsThrough s t 1) ∧
    PushRule s .pushD 0xD5#8 s.regs.d s.regs.e (fun t => fallsThrough s t 1) ∧
    PushRule s .pushH 0xE5#8 s.regs.h s.regs.l (fun t => fallsThrough s t 1) ∧
    PushRule s .pushPsw 0xF5#8 s.regs.a (flagByte s.flags) (fun t => fallsThrough s t 1)

/-- R222, R223 with R131, R33. -/
def Obligations.PopLoadsThePair : Prop :=
  (encode .popB = [0xC1#8] ∧ encode .popD = [0xD1#8] ∧ encode .popH = [0xE1#8] ∧ encode .popPsw = [0xF1#8]) ∧
  ∀ s : State,
    PopRule s .popB 0xC1#8 (fun t hi lo => fallsThrough s { t with regs := { s.regs with b := hi, c := lo } } 1) ∧
    PopRule s .popD 0xD1#8 (fun t hi lo => fallsThrough s { t with regs := { s.regs with d := hi, e := lo } } 1) ∧
    PopRule s .popH 0xE1#8 (fun t hi lo => fallsThrough s { t with regs := { s.regs with h := hi, l := lo } } 1) ∧
    PopRule s .popPsw 0xF1#8 (fun t hi lo =>
      fallsThrough s
        { t with
          regs := { s.regs with a := hi }
          flags :=
            { s := lo.getLsbD 7, z := lo.getLsbD 6, ac := lo.getLsbD 4, p := lo.getLsbD 2,
              cy := lo.getLsbD 0 } } 1)

/-- R131, R222, R223: a push followed by a pop moves the pair, into the same pair or another one, and returns SP to its
pre-push value; PUSH PSW followed by POP PSW restores A and preserves every flag exactly. -/
def Obligations.PopAfterPushMovesThePair : Prop :=
  ∀ s : State, 2 ≤ s.sp.toNat → s.sp.toNat ≤ s.cfg.memSize →
    (∀ p ∈ ([(.pushB, .bc), (.pushD, .de), (.pushH, .hl)] : List (Instr × Pair)),
      ∀ q ∈ ([(.popB, .bc), (.popD, .de), (.popH, .hl)] : List (Instr × Pair)),
        ∃ t u, exec p.1 s = .next t ∧ exec q.1 t = .next u ∧
          u.regs = (s.setPair q.2 (s.pair p.2)).regs ∧ u.sp = s.sp ∧ u.flags = s.flags) ∧
    ∃ t u, exec .pushPsw s = .next t ∧ exec .popPsw t = .next u ∧
      u.regs = s.regs ∧ u.flags = s.flags ∧ u.sp = s.sp

/-! # Jumps, call, return -/

/-- R230 to R238 with R128: a jump to `{b2, b1}`, at once or when the condition holds; else PC advances by 3. -/
def Obligations.JumpsGoToTheTarget : Prop :=
  (∀ (s : State) (b1 b2 : Byte),
    encode (.jmp (wordOf b2 b1)) = [0xC3#8, b1, b2] ∧
    exec (.jmp (wordOf b2 b1)) s = .next (goesTo s s (BitVec.ofNat 16 (256 * b2.toNat + b1.toNat)))) ∧
  OperandFetchTraps 0xC3#8 2 ∧
  (∀ (s : State) (b1 b2 : Byte), ∀ f ∈ jumpIfForms (wordOf b2 b1),
    encode f.1 = [0b11#2 ++ f.2.1 ++ 0b010#3, b1, b2] ∧
    exec f.1 s =
      .next (if f.2.2 s.flags then goesTo s s (BitVec.ofNat 16 (256 * b2.toNat + b1.toNat))
        else fallsThrough s s 3) ∧
    OperandFetchTraps (0b11#2 ++ f.2.1 ++ 0b010#3) 2)

/-- R239 with R130: CALL pushes `(PC + 3)[15:0]` and goes to the target. -/
def Obligations.CallPushesTheReturnAddress : Prop :=
  OperandFetchTraps 0xCD#8 2 ∧
  ∀ (s : State) (b1 b2 : Byte),
    encode (.call (wordOf b2 b1)) = [0xCD#8, b1, b2] ∧
    PushRule s (.call (wordOf b2 b1)) 0xCD#8 (returnHigh s 3) (returnLow s 3)
      (fun t => goesTo s t (BitVec.ofNat 16 (256 * b2.toNat + b1.toNat)))

/-- R240 with R131: RET goes to the word at SP. -/
def Obligations.RetGoesToTheTopOfStack : Prop :=
  encode .ret = [0xC9#8] ∧
  ∀ s : State,
    PopRule s .ret 0xC9#8 (fun t hi lo => goesTo s t (BitVec.ofNat 16 (256 * hi.toNat + lo.toNat)))

/-! # Class X: data and arithmetic, in the default handler set -/

/-- R250, R251. -/
def Obligations.MviLoadsTheImmediate : Prop :=
  (∀ d8 : Byte, ∀ f ∈ mviForms d8, ∀ s : State, s.cfg.handlers = .full →
    encode f.1 = [0b00#2 ++ f.2.code ++ 0b110#3, d8] ∧
    exec f.1 s = .next (fallsThrough s { s with regs := s.regs.set f.2 d8 } 2) ∧
    OperandFetchTraps (0b00#2 ++ f.2.code ++ 0b110#3) 1) ∧
  (∀ (d8 : Byte) (s : State), s.cfg.handlers = .full →
    encode (.mviM d8) = [0x36#8, d8] ∧
    (hl s < s.cfg.memSize → exec (.mviM d8) s = .next (fallsThrough s { s with mem := s.mem.write (hl s) d8 } 2)) ∧
    (s.cfg.memSize ≤ hl s → exec (.mviM d8) s = .next (failsAt s 0x36#8 (hl s)))) ∧
  OperandFetchTraps 0x36#8 1

/-- R252, R253. -/
def Obligations.LdaAndStaUseTheDirectAddress : Prop :=
  (OperandFetchTraps 0x3A#8 2 ∧ OperandFetchTraps 0x32#8 2) ∧
  ∀ (s : State) (b1 b2 : Byte), s.cfg.handlers = .full →
    encode (.lda (wordOf b2 b1)) = [0x3A#8, b1, b2] ∧ encode (.sta (wordOf b2 b1)) = [0x32#8, b1, b2] ∧
    (256 * b2.toNat + b1.toNat < s.cfg.memSize →
      exec (.lda (wordOf b2 b1)) s =
          .next (fallsThrough s
            { s with regs := { s.regs with a := s.mem.read (256 * b2.toNat + b1.toNat) } } 3) ∧
        exec (.sta (wordOf b2 b1)) s =
          .next (fallsThrough s { s with mem := s.mem.write (256 * b2.toNat + b1.toNat) s.regs.a } 3)) ∧
    (s.cfg.memSize ≤ 256 * b2.toNat + b1.toNat →
      exec (.lda (wordOf b2 b1)) s = .next (failsAt s 0x3A#8 ((256 * b2.toNat + b1.toNat : Nat) : Int)) ∧
        exec (.sta (wordOf b2 b1)) s = .next (failsAt s 0x32#8 ((256 * b2.toNat + b1.toNat : Nat) : Int)))

/-- R254, R255 with R57, R58: L is at the address, H at the next one; nothing is read or written unless both are in
bounds. -/
def Obligations.LhldAndShldMoveTwoBytes : Prop :=
  (OperandFetchTraps 0x2A#8 2 ∧ OperandFetchTraps 0x22#8 2) ∧
  ∀ (s : State) (a16 : Word), s.cfg.handlers = .full →
    encode (.lhld a16) = [0x2A#8, lowByte a16, highByte a16] ∧
    encode (.shld a16) = [0x22#8, lowByte a16, highByte a16] ∧
    (a16.toNat + 1 < s.cfg.memSize →
      exec (.lhld a16) s =
          .next (fallsThrough s
            { s with regs := { s.regs with h := s.mem.read (a16.toNat + 1), l := s.mem.read a16.toNat } } 3) ∧
        exec (.shld a16) s =
          .next (fallsThrough s
            { s with mem := (s.mem.write a16.toNat s.regs.l).write (a16.toNat + 1) s.regs.h } 3)) ∧
    (a16.toNat + 1 = s.cfg.memSize →
      exec (.lhld a16) s = .next (failsAt s 0x2A#8 ((a16.toNat : Int) + 1)) ∧
        exec (.shld a16) s = .next (failsAt s 0x22#8 ((a16.toNat : Int) + 1))) ∧
    (s.cfg.memSize ≤ a16.toNat →
      exec (.lhld a16) s = .next (failsAt s 0x2A#8 a16.toNat) ∧
        exec (.shld a16) s = .next (failsAt s 0x22#8 a16.toNat))

/-- R256, R257, R268: XCHG, XTHL and SPHL; the exchanges read everything before they write. -/
def Obligations.ExchangesReadBeforeTheyWrite : Prop :=
  (encode .xchg = [0xEB#8] ∧ encode .xthl = [0xE3#8] ∧ encode .sphl = [0xF9#8]) ∧
  ∀ s : State, s.cfg.handlers = .full →
    exec .xchg s =
      .next (fallsThrough s
        { s with
          regs := { s.regs with h := s.regs.d, l := s.regs.e, d := s.regs.h, e := s.regs.l } } 1) ∧
    (s.sp.toNat + 1 < s.cfg.memSize →
      exec .xthl s =
        .next (fallsThrough s
          { s with
            regs := { s.regs with h := s.mem.read (s.sp.toNat + 1), l := s.mem.read s.sp.toNat }
            mem := (s.mem.write s.sp.toNat s.regs.l).write (s.sp.toNat + 1) s.regs.h } 1)) ∧
    (s.sp.toNat + 1 = s.cfg.memSize → exec .xthl s = .next (failsAt s 0xE3#8 ((s.sp.toNat : Int) + 1))) ∧
    (s.cfg.memSize ≤ s.sp.toNat → exec .xthl s = .next (failsAt s 0xE3#8 s.sp.toNat)) ∧
    exec .sphl s = .next (fallsThrough s { s with sp := BitVec.ofNat 16 (hl s) } 1)

/-- R258, R259: `AC = 1` iff the old low nibble was 0xF; Carry is kept. -/
def Obligations.InrIncrements : Prop :=
  (∀ f ∈ inrForms, ∀ s : State, s.cfg.handlers = .full →
    encode f.1 = [0b00#2 ++ f.2.code ++ 0b100#3] ∧
    exec f.1 s =
      .next (fallsThrough s
        { s with
          regs := s.regs.set f.2 (s.regs.get f.2 + 1#8)
          flags :=
            flagsOf (s.regs.get f.2 + 1#8) s.flags.cy (decide ((s.regs.get f.2).toNat % 16 = 15)) } 1)) ∧
  encode .inrM = [0x34#8] ∧
  (∀ s : State, s.cfg.handlers = .full → hl s < s.cfg.memSize →
    exec .inrM s =
      .next (fallsThrough s
        { s with
          mem := s.mem.write (hl s) (s.mem.read (hl s) + 1#8)
          flags :=
            flagsOf (s.mem.read (hl s) + 1#8) s.flags.cy
              (decide ((s.mem.read (hl s)).toNat % 16 = 15)) } 1)) ∧
  (∀ s : State, s.cfg.handlers = .full → s.cfg.memSize ≤ hl s →
    exec .inrM s = .next (failsAt s 0x34#8 (hl s)))

/-- R260, R261: `AC = 1` iff the old low nibble was 0 (a borrow out of it); Carry is kept. -/
def Obligations.DcrDecrements : Prop :=
  (∀ f ∈ dcrForms, ∀ s : State, s.cfg.handlers = .full →
    encode f.1 = [0b00#2 ++ f.2.code ++ 0b101#3] ∧
    exec f.1 s =
      .next (fallsThrough s
        { s with
          regs := s.regs.set f.2 (s.regs.get f.2 - 1#8)
          flags :=
            flagsOf (s.regs.get f.2 - 1#8) s.flags.cy (decide ((s.regs.get f.2).toNat % 16 = 0)) } 1)) ∧
  encode .dcrM = [0x35#8] ∧
  (∀ s : State, s.cfg.handlers = .full → hl s < s.cfg.memSize →
    exec .dcrM s =
      .next (fallsThrough s
        { s with
          mem := s.mem.write (hl s) (s.mem.read (hl s) - 1#8)
          flags :=
            flagsOf (s.mem.read (hl s) - 1#8) s.flags.cy
              (decide ((s.mem.read (hl s)).toNat % 16 = 0)) } 1)) ∧
  (∀ s : State, s.cfg.handlers = .full → s.cfg.memSize ≤ hl s →
    exec .dcrM s = .next (failsAt s 0x35#8 (hl s)))

/-- R262, R263: register arithmetic modulo 65536, no flag. -/
def Obligations.InxAndDcxCountAPair : Prop :=
  (∀ f ∈ inxForms, ∀ s : State, s.cfg.handlers = .full →
    encode f.1 = [0b00#2 ++ f.2.code ++ 0b0011#4] ∧
    exec f.1 s = .next (fallsThrough s (s.setPair f.2 (s.pair f.2 + 1#16)) 1)) ∧
  (∀ f ∈ dcxForms, ∀ s : State, s.cfg.handlers = .full →
    encode f.1 = [0b00#2 ++ f.2.code ++ 0b1011#4] ∧
    exec f.1 s = .next (fallsThrough s (s.setPair f.2 (s.pair f.2 - 1#16)) 1))

/-- R264: HL takes the sum, Carry says whether it passed 0xFFFF, the other flags are kept. -/
def Obligations.DadAddsToHL : Prop :=
  ∀ f ∈ dadForms, ∀ s : State, s.cfg.handlers = .full →
    encode f.1 = [0b00#2 ++ f.2.code ++ 0b1001#4] ∧
    exec f.1 s =
      .next (fallsThrough s
        { s with
          regs :=
            { s.regs with
              h := BitVec.ofNat 8 ((hl s + (s.pair f.2).toNat) / 256)
              l := BitVec.ofNat 8 (hl s + (s.pair f.2).toNat) }
          flags := { s.flags with cy := decide (65536 ≤ hl s + (s.pair f.2).toNat) } } 1)

/-- R265 to R267: DAA as its pseudocode, STC, CMC. -/
def Obligations.DaaStcCmcSetTheCarry : Prop :=
  (encode .daa = [0x27#8] ∧ encode .stc = [0x37#8] ∧ encode .cmc = [0x3F#8]) ∧
  ∀ s : State, s.cfg.handlers = .full →
    (∀ lsb msb low high w : Nat,
      lsb = s.regs.a.toNat % 16 → msb = s.regs.a.toNat / 16 →
      low = (if s.flags.ac = true ∨ lsb > 9 then 0x06 else 0) →
      high = (if s.flags.cy = true ∨ msb > 9 ∨ (msb ≥ 9 ∧ lsb > 9) then 0x60 else 0) →
      w = s.regs.a.toNat + (low + high) →
      exec .daa s =
        .next (fallsThrough s
          (withAcc s (BitVec.ofNat 8 w)
            (flagsOf (BitVec.ofNat 8 w) (s.flags.cy || decide (high = 0x60)) (decide (lsb + low > 15)))) 1)) ∧
    exec .stc s = .next (fallsThrough s { s with flags := { s.flags with cy := true } } 1) ∧
    exec .cmc s = .next (fallsThrough s { s with flags := { s.flags with cy := !s.flags.cy } } 1)

/-! # Class X: control transfer, in the default handler set -/

/-- R290 to R297: when the condition holds, what CALL does; when not, PC advances by 3 and the stack is not touched, even
with an SP at which a push would raise. -/
def Obligations.ConditionalCallsCallWhenTaken : Prop :=
  ∀ (s : State) (b1 b2 : Byte), s.cfg.handlers = .full → ∀ f ∈ callIfForms (wordOf b2 b1),
    encode f.1 = [0b11#2 ++ f.2.1 ++ 0b100#3, b1, b2] ∧
    (f.2.2 s.flags = true →
      PushRule s f.1 (0b11#2 ++ f.2.1 ++ 0b100#3) (returnHigh s 3) (returnLow s 3)
        (fun t => goesTo s t (BitVec.ofNat 16 (256 * b2.toNat + b1.toNat)))) ∧
    (f.2.2 s.flags = false → exec f.1 s = .next (fallsThrough s s 3)) ∧
    OperandFetchTraps (0b11#2 ++ f.2.1 ++ 0b100#3) 2

/-- R298 to R305: when the condition holds, what RET does; when not, PC advances by 1 and the stack is not read. -/
def Obligations.ConditionalReturnsReturnWhenTaken : Prop :=
  ∀ s : State, s.cfg.handlers = .full → ∀ f ∈ returnIfForms,
    encode f.1 = [0b11#2 ++ f.2.1 ++ 0b000#3] ∧
    (f.2.2 s.flags = true →
      PopRule s f.1 (0b11#2 ++ f.2.1 ++ 0b000#3)
        (fun t hi lo => goesTo s t (BitVec.ofNat 16 (256 * hi.toNat + lo.toNat)))) ∧
    (f.2.2 s.flags = false → exec f.1 s = .next (fallsThrough s s 1))

/-- R306: RST n pushes `(PC + 1)[15:0]` and goes to `8 * n`. -/
def Obligations.RstCallsEightTimesN : Prop :=
  ∀ s : State, s.cfg.handlers = .full → ∀ f ∈ rstForms,
    encode f.1 = [0b11#2 ++ f.2 ++ 0b111#3] ∧
    PushRule s f.1 (0b11#2 ++ f.2 ++ 0b111#3) (returnHigh s 1) (returnLow s 1)
      (fun t => goesTo s t (BitVec.ofNat 16 (8 * f.2.toNat)))

/-- R307: PCHL goes to HL; Memory is not accessed and HL is unchanged. -/
def Obligations.PchlGoesToHL : Prop :=
  encode .pchl = [0xE9#8] ∧
  ∀ s : State, s.cfg.handlers = .full → exec .pchl s = .next (goesTo s s (BitVec.ofNat 16 (hl s)))
end

