-- ==== Sys2Proof/Laws/Codec.lean ====
section
/-! SUPPORT. The small lemmas of the decoder's helpers: the bytes of a word, and which bytes a handler set handles. -/

namespace Sys2Proof

theorem wordOf_toNat (hi lo : Byte) : (wordOf hi lo).toNat = 256 * hi.toNat + lo.toNat := by
  have := hi.isLt
  have := lo.isLt
  simp only [wordOf, BitVec.toNat_ofNat]
  omega

theorem highByte_toNat (w : Word) : (highByte w).toNat = w.toNat / 256 := by
  have := w.isLt
  simp only [highByte, BitVec.toNat_ofNat]
  omega

theorem lowByte_toNat (w : Word) : (lowByte w).toNat = w.toNat % 256 := by
  simp only [lowByte, BitVec.toNat_ofNat]
  omega

@[simp] theorem highByte_wordOf (hi lo : Byte) : highByte (wordOf hi lo) = hi := by
  have := lo.isLt
  apply BitVec.eq_of_toNat_eq
  rw [highByte_toNat, wordOf_toNat]
  omega

@[simp] theorem lowByte_wordOf (hi lo : Byte) : lowByte (wordOf hi lo) = lo := by
  have := lo.isLt
  apply BitVec.eq_of_toNat_eq
  rw [lowByte_toNat, wordOf_toNat]
  omega

/-- A word is made of its two bytes. -/
@[simp] theorem wordOf_bytes (w : Word) : wordOf (highByte w) (lowByte w) = w := by
  apply BitVec.eq_of_toNat_eq
  rw [wordOf_toNat, highByte_toNat, lowByte_toNat]
  omega

/-- A class F byte has a handler in every handler set (R9). -/
theorem handled_of_classF {hs : HandlerSet} {op : Byte} (h : opClass op = .f) : handled hs op = true := by
  simp [handled, h]

/-- A class X byte has a handler in the default handler set only (R9). -/
theorem handled_of_classX {hs : HandlerSet} {op : Byte} (h : opClass op = .x) :
    handled hs op = decide (hs = .full) := by
  cases hs <;> simp [handled, h]

/-- A byte of class P or U has no handler in any handler set (R9). -/
theorem not_handled_of_classPU {hs : HandlerSet} {op : Byte} (h : opClass op = .p ∨ opClass op = .u) :
    handled hs op = false := by
  rcases h with h | h <;> simp [handled, h]

/-- The map has one cell per byte value: 16 rows of 16 (R87). -/
theorem opcodeMap_shape (d8 : Byte) (w : Word) : (opcodeMap d8 w).map List.length = List.replicate 16 16 := rfl

/-- An opcode has at most two operand bytes (R80). -/
theorem operandLength_le_two (op : Byte) : operandLength op ≤ 2 := by
  unfold operandLength
  split
  · decide
  · split <;> decide

/-- Every outcome of decoding a byte list that is not empty (R80, R81, R98). -/
theorem decode_cases (op : Byte) (bytes : List Byte) :
    (operandLength op = 0 ∧ decode (op :: bytes) = .ok (instrOf op 0#8 0#8, bytes)) ∨
      (∃ b1 rest, operandLength op = 1 ∧ bytes = b1 :: rest ∧ decode (op :: bytes) = .ok (instrOf op b1 0#8, rest)) ∨
      (∃ b1 b2 rest, operandLength op = 2 ∧ bytes = b1 :: b2 :: rest ∧
        decode (op :: bytes) = .ok (instrOf op b1 b2, rest)) ∨
      (bytes.length < operandLength op ∧ decode (op :: bytes) = .error (.missingOperand op)) := by
  have h := operandLength_le_two op
  obtain h | h | h : operandLength op = 0 ∨ operandLength op = 1 ∨ operandLength op = 2 := by omega
  · exact .inl ⟨h, by simp only [decode, h]⟩
  · rcases bytes with _ | ⟨b1, rest⟩
    · exact .inr (.inr (.inr (by simp [decode, h])))
    · exact .inr (.inl ⟨b1, rest, h, rfl, by simp only [decode, h]⟩)
  · rcases bytes with _ | ⟨b1, _ | ⟨b2, rest⟩⟩
    · exact .inr (.inr (.inr (by simp [decode, h])))
    · exact .inr (.inr (.inr (by simp [decode, h])))
    · exact .inr (.inr (.inl ⟨b1, b2, rest, h, rfl, by simp only [decode, h]⟩))

end Sys2Proof
end

