-- ==== Sys2Proof/Laws/Flags.lean ====
section
/-! SUPPORT. The small lemmas of the flag functions: which flags each writes, and the sums on bit vectors. -/

namespace Sys2Proof.Machine

@[simp] theorem Flags.setZSP_cy (f : Flags) (r : Byte) : (f.setZSP r).cy = f.cy := rfl
@[simp] theorem Flags.setZSP_ac (f : Flags) (r : Byte) : (f.setZSP r).ac = f.ac := rfl
@[simp] theorem Flags.ofAlu_cy (f : Flags) (o : AluOut) : (f.ofAlu o).cy = o.cy := rfl
@[simp] theorem Flags.ofAlu_ac (f : Flags) (o : AluOut) : (f.ofAlu o).ac = o.ac := rfl
@[simp] theorem Flags.ofCount_cy (f : Flags) (o : AluOut) : (f.ofCount o).cy = f.cy := rfl
@[simp] theorem Flags.ofCount_ac (f : Flags) (o : AluOut) : (f.ofCount o).ac = o.ac := rfl
@[simp] theorem Flags.ofCompare_cy (f : Flags) (o : AluOut) : (f.ofCompare o).cy = o.cy := rfl
@[simp] theorem Flags.ofCompare_ac (f : Flags) (o : AluOut) : (f.ofCompare o).ac = f.ac := rfl

/-- All five flags of an accumulator operation come from its result: the old flags do not matter. -/
theorem Flags.ofAlu_eq (f g : Flags) (o : AluOut) : f.ofAlu o = g.ofAlu o := rfl

/-- The byte the adder gives is the wrapping sum (R124). -/
theorem add8_r (a b : Byte) (cin : Bool) : (add8 a b cin).r = a + b + BitVec.ofNat 8 cin.toNat := by
  apply BitVec.eq_of_toNat_eq
  simp [add8, BitVec.toNat_add, BitVec.toNat_ofNat]

/-- The byte the subtractor gives is the wrapping difference (R125). -/
theorem sub8_r (a b : Byte) (bin : Bool) : (sub8 a b bin).r = a - b - BitVec.ofNat 8 bin.toNat := by
  revert a b bin
  intro a b bin
  have ha := a.isLt
  have hb := b.isLt
  apply BitVec.eq_of_toNat_eq
  cases bin
  · simp only [sub8, BitVec.toNat_ofInt, BitVec.toNat_sub, BitVec.toNat_ofNat, Bool.toNat_false]
    omega
  · simp only [sub8, BitVec.toNat_ofInt, BitVec.toNat_sub, BitVec.toNat_ofNat, Bool.toNat_true]
    omega

end Sys2Proof.Machine
end

