-- ==== Sys2Proof/Laws/Memory.lean ====
section
/-! SUPPORT. The laws of Memory as data: a read after a write, what a write leaves alone, and that every memory operation
keeps the canonical form (`Memory.wf`) and stays within Memory (`Memory.within`). -/

namespace Sys2Proof.Machine

/-! ## Read after write -/

theorem Memory.read_insert_same (m : Memory) (a : Nat) (v : Byte) : (m.insert a v).read a = v := by
  induction m with
  | nil => simp [Memory.insert, Memory.read]
  | cons c m ih =>
    simp only [Memory.insert]
    split
    · simp [Memory.read]
    · split
      · simp [Memory.read]
      · rename_i h₁ h₂
        simp [Memory.read, h₂, ih]

theorem Memory.read_insert_other (m : Memory) {a b : Nat} (v : Byte) (h : b ≠ a) :
    (m.insert a v).read b = m.read b := by
  induction m with
  | nil => simp [Memory.insert, Memory.read, h]
  | cons c m ih =>
    simp only [Memory.insert]
    split
    · simp [Memory.read, h]
    · split
      · rename_i h₁ h₂
        simp [Memory.read, h, ← h₂]
      · simp [Memory.read, ih]

theorem Memory.read_erase_same (m : Memory) (a : Nat) : (m.erase a).read a = Config.unlistedByte := by
  induction m with
  | nil => rfl
  | cons c m ih =>
    simp only [Memory.erase]
    split
    · exact ih
    · rename_i h
      simp [Memory.read, h, ih]

theorem Memory.read_erase_other (m : Memory) {a b : Nat} (h : b ≠ a) : (m.erase a).read b = m.read b := by
  induction m with
  | nil => rfl
  | cons c m ih =>
    simp only [Memory.erase]
    split
    · rename_i h₁
      simp [Memory.read, ih, ← h₁, h]
    · simp [Memory.read, ih]

/-- R65: a read gives the value of the latest write. -/
@[simp] theorem Memory.read_write_same (m : Memory) (a : Nat) (v : Byte) : (m.write a v).read a = v := by
  unfold Memory.write
  split
  · rename_i h
    rw [Memory.read_erase_same, h]
  · exact Memory.read_insert_same m a v

/-- R55: no other byte changes. -/
@[simp] theorem Memory.read_write_other (m : Memory) {a b : Nat} (v : Byte) (h : b ≠ a) :
    (m.write a v).read b = m.read b := by
  unfold Memory.write
  split
  · exact Memory.read_erase_other m h
  · exact Memory.read_insert_other m v h

/-! ## The canonical form -/

theorem Memory.wf_cons (k : Nat) (w : Byte) (m : Memory) :
    Memory.wf ((k, w) :: m) = true ↔ w ≠ Config.unlistedByte ∧ (∀ c ∈ m, k < c.1) ∧ m.wf = true := by
  simp [Memory.wf, List.all_eq_true, and_assoc]

theorem Memory.mem_insert {m : Memory} {a : Nat} {v : Byte} {c : Host.Cell} (h : c ∈ m.insert a v) :
    c = (a, v) ∨ c ∈ m := by
  induction m with
  | nil => simpa [Memory.insert] using h
  | cons d m ih =>
    simp only [Memory.insert] at h
    split at h
    · simpa using h
    · split at h
      · simp only [List.mem_cons] at h ⊢
        tauto
      · simp only [List.mem_cons] at h ⊢
        rcases h with h | h
        · exact .inr (.inl h)
        · rcases ih h with h | h <;> simp [h]

theorem Memory.mem_erase {m : Memory} {a : Nat} {c : Host.Cell} (h : c ∈ m.erase a) : c ∈ m := by
  induction m with
  | nil => simp [Memory.erase] at h
  | cons d m ih =>
    simp only [Memory.erase] at h
    split at h
    · exact List.mem_cons_of_mem _ (ih h)
    · simp only [List.mem_cons] at h ⊢
      exact h.imp_right ih

theorem Memory.wf_insert {m : Memory} {a : Nat} {v : Byte} (h : m.wf = true) (hv : v ≠ Config.unlistedByte) :
    (m.insert a v).wf = true := by
  induction m with
  | nil => simp [Memory.insert, Memory.wf, hv]
  | cons c m ih =>
    obtain ⟨k, w⟩ := c
    obtain ⟨hw, hk, hm⟩ := (Memory.wf_cons k w m).1 h
    simp only [Memory.insert]
    split
    · rename_i hlt
      refine (Memory.wf_cons _ _ _).2 ⟨hv, ?_, h⟩
      intro c hc
      rcases List.mem_cons.1 hc with rfl | hc
      · exact hlt
      · exact lt_trans hlt (hk c hc)
    · split
      · rename_i h₁ h₂
        exact (Memory.wf_cons _ _ _).2 ⟨hv, h₂ ▸ hk, hm⟩
      · rename_i h₁ h₂
        refine (Memory.wf_cons _ _ _).2 ⟨hw, ?_, ih hm⟩
        intro c hc
        rcases Memory.mem_insert hc with rfl | hc
        · show k < a
          omega
        · exact hk c hc

theorem Memory.wf_erase {m : Memory} (a : Nat) (h : m.wf = true) : (m.erase a).wf = true := by
  induction m with
  | nil => rfl
  | cons c m ih =>
    obtain ⟨k, w⟩ := c
    obtain ⟨hw, hk, hm⟩ := (Memory.wf_cons k w m).1 h
    simp only [Memory.erase]
    split
    · exact ih hm
    · exact (Memory.wf_cons _ _ _).2 ⟨hw, fun c hc => hk c (Memory.mem_erase hc), ih hm⟩

/-- A write keeps the canonical form. -/
theorem Memory.wf_write {m : Memory} (a : Nat) (v : Byte) (h : m.wf = true) : (m.write a v).wf = true := by
  unfold Memory.write
  split
  · exact Memory.wf_erase a h
  · rename_i hv
    exact Memory.wf_insert h hv

/-- A write within Memory keeps every entry within it. -/
theorem Memory.within_write {m : Memory} {size a : Nat} (v : Byte) (h : m.within size = true) (ha : a < size) :
    (m.write a v).within size = true := by
  simp only [Memory.within, List.all_eq_true, decide_eq_true_eq] at h ⊢
  intro c hc
  unfold Memory.write at hc
  split at hc
  · exact h c (Memory.mem_erase hc)
  · rcases Memory.mem_insert hc with rfl | hc
    · exact ha
    · exact h c hc

/-- Placing bytes keeps the canonical form. -/
theorem Memory.wf_place {size : Nat} (bytes : List Byte) {m : Memory} (a : Nat) (h : m.wf = true) :
    (Memory.place size m a bytes).wf = true := by
  induction bytes generalizing m a with
  | nil => exact h
  | cons v bytes ih =>
    simp only [Memory.place]
    split
    · exact ih _ (Memory.wf_write a v h)
    · exact ih _ h

/-- Placing bytes stays within Memory. -/
theorem Memory.within_place {size : Nat} (bytes : List Byte) {m : Memory} (a : Nat) (h : m.within size = true) :
    (Memory.place size m a bytes).within size = true := by
  induction bytes generalizing m a with
  | nil => exact h
  | cons v bytes ih =>
    simp only [Memory.place]
    split
    · rename_i ha
      exact ih _ (Memory.within_write v h ha)
    · exact ih _ h

/-- Bytes placed from a higher address on leave the byte at a lower one alone. -/
theorem Memory.read_place_below {size : Nat} (bytes : List Byte) {m : Memory} {a b : Nat} (h : b < a) :
    (Memory.place size m a bytes).read b = m.read b := by
  induction bytes generalizing m a with
  | nil => rfl
  | cons v bytes ih =>
    simp only [Memory.place]
    rw [ih (by omega)]
    split
    · exact Memory.read_write_other m v (by omega)
    · rfl

/-- The memory made of a list of cells is in canonical form. -/
theorem Memory.wf_ofCells (size : Nat) (cells : List Host.Cell) : (Memory.ofCells size cells).wf = true := by
  induction cells with
  | nil => rfl
  | cons c cells ih =>
    simp only [Memory.ofCells]
    split
    · exact Memory.wf_write _ _ ih
    · exact ih

/-- The memory made of a list of cells lies within Memory. -/
theorem Memory.within_ofCells (size : Nat) (cells : List Host.Cell) :
    (Memory.ofCells size cells).within size = true := by
  induction cells with
  | nil => rfl
  | cons c cells ih =>
    simp only [Memory.ofCells]
    split
    · rename_i h
      exact Memory.within_write _ ih h
    · exact ih

/-- The memory right after reset is in canonical form. -/
theorem State.reset_mem_wf : State.reset.mem.wf = true := rfl

end Sys2Proof.Machine
end

