-- ==== Sys2Proof/Laws/State.lean ====
section
/-! SUPPORT. One lemma per field per update of State, and per register per write of Regs, so that no later proof unfolds a
record update. -/

namespace Sys2Proof.Machine

/-! ## setReg -/

@[simp] theorem State.setReg_regs (s : State) (r : Reg) (v : Byte) : (s.setReg r v).regs = s.regs.set r v := rfl
@[simp] theorem State.setReg_sp (s : State) (r : Reg) (v : Byte) : (s.setReg r v).sp = s.sp := rfl
@[simp] theorem State.setReg_pc (s : State) (r : Reg) (v : Byte) : (s.setReg r v).pc = s.pc := rfl
@[simp] theorem State.setReg_flags (s : State) (r : Reg) (v : Byte) : (s.setReg r v).flags = s.flags := rfl
@[simp] theorem State.setReg_mem (s : State) (r : Reg) (v : Byte) : (s.setReg r v).mem = s.mem := rfl
@[simp] theorem State.setReg_runState (s : State) (r : Reg) (v : Byte) : (s.setReg r v).runState = s.runState := rfl
@[simp] theorem State.setReg_err (s : State) (r : Reg) (v : Byte) : (s.setReg r v).err = s.err := rfl
@[simp] theorem State.setReg_cfg (s : State) (r : Reg) (v : Byte) : (s.setReg r v).cfg = s.cfg := rfl

/-! ## setAcc -/

@[simp] theorem State.setAcc_regs (s : State) (v : Byte) (f : Flags) : (s.setAcc v f).regs = { s.regs with a := v } := rfl
@[simp] theorem State.setAcc_sp (s : State) (v : Byte) (f : Flags) : (s.setAcc v f).sp = s.sp := rfl
@[simp] theorem State.setAcc_pc (s : State) (v : Byte) (f : Flags) : (s.setAcc v f).pc = s.pc := rfl
@[simp] theorem State.setAcc_flags (s : State) (v : Byte) (f : Flags) : (s.setAcc v f).flags = f := rfl
@[simp] theorem State.setAcc_mem (s : State) (v : Byte) (f : Flags) : (s.setAcc v f).mem = s.mem := rfl
@[simp] theorem State.setAcc_runState (s : State) (v : Byte) (f : Flags) : (s.setAcc v f).runState = s.runState := rfl
@[simp] theorem State.setAcc_err (s : State) (v : Byte) (f : Flags) : (s.setAcc v f).err = s.err := rfl
@[simp] theorem State.setAcc_cfg (s : State) (v : Byte) (f : Flags) : (s.setAcc v f).cfg = s.cfg := rfl

/-! ## setFlags -/

@[simp] theorem State.setFlags_regs (s : State) (f : Flags) : (s.setFlags f).regs = s.regs := rfl
@[simp] theorem State.setFlags_sp (s : State) (f : Flags) : (s.setFlags f).sp = s.sp := rfl
@[simp] theorem State.setFlags_pc (s : State) (f : Flags) : (s.setFlags f).pc = s.pc := rfl
@[simp] theorem State.setFlags_flags (s : State) (f : Flags) : (s.setFlags f).flags = f := rfl
@[simp] theorem State.setFlags_mem (s : State) (f : Flags) : (s.setFlags f).mem = s.mem := rfl
@[simp] theorem State.setFlags_runState (s : State) (f : Flags) : (s.setFlags f).runState = s.runState := rfl
@[simp] theorem State.setFlags_err (s : State) (f : Flags) : (s.setFlags f).err = s.err := rfl
@[simp] theorem State.setFlags_cfg (s : State) (f : Flags) : (s.setFlags f).cfg = s.cfg := rfl

/-! ## setPair -/

@[simp] theorem State.setPair_pc (s : State) (p : Pair) (v : Word) : (s.setPair p v).pc = s.pc := by cases p <;> rfl
@[simp] theorem State.setPair_flags (s : State) (p : Pair) (v : Word) : (s.setPair p v).flags = s.flags := by cases p <;> rfl
@[simp] theorem State.setPair_mem (s : State) (p : Pair) (v : Word) : (s.setPair p v).mem = s.mem := by cases p <;> rfl
@[simp] theorem State.setPair_runState (s : State) (p : Pair) (v : Word) : (s.setPair p v).runState = s.runState := by cases p <;> rfl
@[simp] theorem State.setPair_err (s : State) (p : Pair) (v : Word) : (s.setPair p v).err = s.err := by cases p <;> rfl
@[simp] theorem State.setPair_cfg (s : State) (p : Pair) (v : Word) : (s.setPair p v).cfg = s.cfg := by cases p <;> rfl

/-! ## setPsw -/

@[simp] theorem State.setPsw_regs (s : State) (v : Word) : (s.setPsw v).regs = { s.regs with a := highByte v } := rfl
@[simp] theorem State.setPsw_sp (s : State) (v : Word) : (s.setPsw v).sp = s.sp := rfl
@[simp] theorem State.setPsw_pc (s : State) (v : Word) : (s.setPsw v).pc = s.pc := rfl
@[simp] theorem State.setPsw_flags (s : State) (v : Word) : (s.setPsw v).flags = Flags.unpack (lowByte v) := rfl
@[simp] theorem State.setPsw_mem (s : State) (v : Word) : (s.setPsw v).mem = s.mem := rfl
@[simp] theorem State.setPsw_runState (s : State) (v : Word) : (s.setPsw v).runState = s.runState := rfl
@[simp] theorem State.setPsw_err (s : State) (v : Word) : (s.setPsw v).err = s.err := rfl
@[simp] theorem State.setPsw_cfg (s : State) (v : Word) : (s.setPsw v).cfg = s.cfg := rfl

/-! ## raise -/

@[simp] theorem State.raise_regs (s : State) (op : Byte) (r : Raise) : (s.raise op r).regs = s.regs := rfl
@[simp] theorem State.raise_sp (s : State) (op : Byte) (r : Raise) : (s.raise op r).sp = s.sp := rfl
@[simp] theorem State.raise_pc (s : State) (op : Byte) (r : Raise) : (s.raise op r).pc = s.pc := rfl
@[simp] theorem State.raise_flags (s : State) (op : Byte) (r : Raise) : (s.raise op r).flags = s.flags := rfl
@[simp] theorem State.raise_mem (s : State) (op : Byte) (r : Raise) : (s.raise op r).mem = s.mem := rfl
@[simp] theorem State.raise_runState (s : State) (op : Byte) (r : Raise) : (s.raise op r).runState = .error := rfl
@[simp] theorem State.raise_err (s : State) (op : Byte) (r : Raise) : (s.raise op r).err = some { kind := r.kind, opcode := op, pc := s.pc, addr := r.addr } := rfl
@[simp] theorem State.raise_cfg (s : State) (op : Byte) (r : Raise) : (s.raise op r).cfg = s.cfg := rfl

/-! ## advance -/

@[simp] theorem State.advance_regs (s : State) (npc : Nat) : (s.advance npc).regs = s.regs := rfl
@[simp] theorem State.advance_sp (s : State) (npc : Nat) : (s.advance npc).sp = s.sp := rfl
@[simp] theorem State.advance_pc (s : State) (npc : Nat) : (s.advance npc).pc = BitVec.ofNat 16 npc := rfl
@[simp] theorem State.advance_flags (s : State) (npc : Nat) : (s.advance npc).flags = s.flags := rfl
@[simp] theorem State.advance_mem (s : State) (npc : Nat) : (s.advance npc).mem = s.mem := rfl
@[simp] theorem State.advance_runState (s : State) (npc : Nat) : (s.advance npc).runState = if s.cfg.programEnd ≤ npc then .halt else s.runState := rfl
@[simp] theorem State.advance_err (s : State) (npc : Nat) : (s.advance npc).err = s.err := rfl
@[simp] theorem State.advance_cfg (s : State) (npc : Nat) : (s.advance npc).cfg = s.cfg := rfl

/-- Only the pair code of SP writes SP (R24). -/
@[simp] theorem State.setPair_sp_sp (s : State) (v : Word) : (s.setPair .sp v).sp = v := rfl
@[simp] theorem State.setPair_sp_regs (s : State) (v : Word) : (s.setPair .sp v).regs = s.regs := rfl
@[simp] theorem State.setPair_bc_sp (s : State) (v : Word) : (s.setPair .bc v).sp = s.sp := rfl
@[simp] theorem State.setPair_bc_regs (s : State) (v : Word) :
    (s.setPair .bc v).regs = { s.regs with b := highByte v, c := lowByte v } := rfl
@[simp] theorem State.setPair_de_sp (s : State) (v : Word) : (s.setPair .de v).sp = s.sp := rfl
@[simp] theorem State.setPair_de_regs (s : State) (v : Word) :
    (s.setPair .de v).regs = { s.regs with d := highByte v, e := lowByte v } := rfl
@[simp] theorem State.setPair_hl_sp (s : State) (v : Word) : (s.setPair .hl v).sp = s.sp := rfl
@[simp] theorem State.setPair_hl_regs (s : State) (v : Word) :
    (s.setPair .hl v).regs = { s.regs with h := highByte v, l := lowByte v } := rfl

/-! ## Byte registers -/

/-- A register reads as the value last written to it. -/
@[simp] theorem Regs.get_set_same (g : Regs) (r : Reg) (v : Byte) : (g.set r v).get r = v := by cases r <;> rfl

/-- Writing one register leaves the others alone: no register aliases another (R20). -/
@[simp] theorem Regs.get_set_other (g : Regs) {r q : Reg} (v : Byte) (h : q ≠ r) : (g.set r v).get q = g.get q := by
  cases r <;> cases q <;> first | rfl | exact absurd rfl h

/-- Two register files that read alike are equal. -/
theorem Regs.ext_get {g g' : Regs} (h : ∀ r, g.get r = g'.get r) : g = g' := by
  cases g
  cases g'
  have ha := h .a
  have hb := h .b
  have hc := h .c
  have hd := h .d
  have he := h .e
  have hh := h .h
  have hl := h .l
  simp only [Regs.get] at ha hb hc hd he hh hl
  simp [ha, hb, hc, hd, he, hh, hl]

/-! ## Reset -/

@[simp] theorem State.reset_pc : State.reset.pc = 0x0000#16 := rfl
@[simp] theorem State.reset_mem : State.reset.mem = [] := rfl
@[simp] theorem State.reset_runState : State.reset.runState = .halt := rfl
@[simp] theorem State.reset_err : State.reset.err = none := rfl

end Sys2Proof.Machine
end

