-- ==== Sys2Proof/Laws/Ops.lean ====
section
/-! SUPPORT. One lemma per shared operation that says everything it can do: the value it gives when its addresses are in
bounds, what it raises when they are not, and, read backwards, what an answer of it means. -/

namespace Sys2Proof.Machine

/-! ## Bounded access -/

/-- An address held in 16 bits is in bounds when it is below `MEM_SIZE` (R53). -/
theorem State.inBounds_nat (s : State) (a : Nat) : s.inBounds (a : Int) ↔ a < s.cfg.memSize := by
  simp [State.inBounds]

theorem memRead_ok {s : State} {addr : Int} (h : s.inBounds addr) : memRead s addr = .ok (s.mem.read addr.toNat) := by
  simp only [memRead, if_pos h]

theorem memRead_raises {s : State} {addr : Int} (h : ¬ s.inBounds addr) :
    memRead s addr = .error (.outOfBoundsAccess addr) := by
  simp only [memRead, if_neg h]

theorem memWrite_ok {s : State} {addr : Int} (v : Byte) (h : s.inBounds addr) :
    memWrite s addr v = .ok { s with mem := s.mem.write addr.toNat v } := by
  simp only [memWrite, if_pos h]

theorem memWrite_raises {s : State} {addr : Int} (v : Byte) (h : ¬ s.inBounds addr) :
    memWrite s addr v = .error (.outOfBoundsAccess addr) := by
  simp only [memWrite, if_neg h]

/-- What a one-byte write that succeeds has done (R55). -/
theorem memWrite_cases {s t : State} {addr : Int} {v : Byte} (h : memWrite s addr v = .ok t) :
    s.inBounds addr ∧ t = { s with mem := s.mem.write addr.toNat v } := by
  simp only [memWrite] at h
  split at h
  · rename_i hb
    exact ⟨hb, (Except.ok.inj h).symm⟩
  · cases h

/-- What a one-byte access that raises has met (R54, R55). -/
theorem memRead_error {s : State} {addr : Int} {r : Raise} (h : memRead s addr = .error r) :
    ¬ s.inBounds addr ∧ r = .outOfBoundsAccess addr := by
  simp only [memRead] at h
  split at h
  · cases h
  · rename_i hb
    exact ⟨hb, (Except.error.inj h).symm⟩

theorem memWrite_error {s : State} {addr : Int} {v : Byte} {r : Raise} (h : memWrite s addr v = .error r) :
    ¬ s.inBounds addr ∧ r = .outOfBoundsAccess addr := by
  simp only [memWrite] at h
  split at h
  · cases h
  · rename_i hb
    exact ⟨hb, (Except.error.inj h).symm⟩

/-- A two-byte read in bounds: the low byte at the lower address (R57). -/
theorem memRead16_ok {s : State} {addr : Int} (h₀ : s.inBounds addr) (h₁ : s.inBounds (addr + 1)) :
    memRead16 s addr = .ok (wordOf (s.mem.read (addr + 1).toNat) (s.mem.read addr.toNat)) := by
  simp only [memRead16, memRead_ok h₀, memRead_ok h₁]

theorem memRead16_raises_low {s : State} {addr : Int} (h₀ : ¬ s.inBounds addr) :
    memRead16 s addr = .error (.outOfBoundsAccess addr) := by
  simp only [memRead16, memRead_raises h₀]

theorem memRead16_raises_high {s : State} {addr : Int} (h₀ : s.inBounds addr) (h₁ : ¬ s.inBounds (addr + 1)) :
    memRead16 s addr = .error (.outOfBoundsAccess (addr + 1)) := by
  simp only [memRead16, memRead_ok h₀, memRead_raises h₁]

/-- Every outcome of a two-byte read (R57). -/
theorem memRead16_cases (s : State) (addr : Int) :
    (s.inBounds addr ∧ s.inBounds (addr + 1) ∧
        memRead16 s addr = .ok (wordOf (s.mem.read (addr + 1).toNat) (s.mem.read addr.toNat))) ∨
      (∃ a, ¬ s.inBounds a ∧ memRead16 s addr = .error (.outOfBoundsAccess a)) := by
  by_cases h₀ : s.inBounds addr
  · by_cases h₁ : s.inBounds (addr + 1)
    · exact .inl ⟨h₀, h₁, memRead16_ok h₀ h₁⟩
    · exact .inr ⟨_, h₁, memRead16_raises_high h₀ h₁⟩
  · exact .inr ⟨_, h₀, memRead16_raises_low h₀⟩

/-- A two-byte write in bounds (R58). -/
theorem memWrite16_ok {s : State} {addr : Int} (v : Word) (h₀ : s.inBounds addr) (h₁ : s.inBounds (addr + 1)) :
    memWrite16 s addr v =
      .ok { s with mem := (s.mem.write addr.toNat (lowByte v)).write (addr + 1).toNat (highByte v) } := by
  simp only [memWrite16, if_pos h₀, if_pos h₁]

/-- Every outcome of a two-byte write: nothing is written unless both addresses are in bounds (R58). -/
theorem memWrite16_cases (s : State) (addr : Int) (v : Word) :
    (s.inBounds addr ∧ s.inBounds (addr + 1) ∧
        memWrite16 s addr v =
          .ok { s with mem := (s.mem.write addr.toNat (lowByte v)).write (addr + 1).toNat (highByte v) }) ∨
      (∃ a, ¬ s.inBounds a ∧ memWrite16 s addr v = .error (.outOfBoundsAccess a)) := by
  by_cases h₀ : s.inBounds addr
  · by_cases h₁ : s.inBounds (addr + 1)
    · exact .inl ⟨h₀, h₁, memWrite16_ok v h₀ h₁⟩
    · exact .inr ⟨_, h₁, by simp only [memWrite16, if_pos h₀, if_neg h₁]⟩
  · exact .inr ⟨_, h₀, by simp only [memWrite16, if_neg h₀]⟩

/-! ## The stack -/

/-- A push in bounds (R130). -/
theorem push16_ok {s : State} (v : Word) (h₁ : s.inBounds ((s.sp.toNat : Int) - 1))
    (h₂ : s.inBounds ((s.sp.toNat : Int) - 2)) :
    push16 s v =
      .ok { s with
        mem := (s.mem.write ((s.sp.toNat : Int) - 1).toNat (highByte v)).write
          ((s.sp.toNat : Int) - 2).toNat (lowByte v)
        sp := s.sp - 2#16 } := by
  simp only [push16, if_pos h₁, if_pos h₂]

/-- Every outcome of a push (R130). -/
theorem push16_cases (s : State) (v : Word) :
    (s.inBounds ((s.sp.toNat : Int) - 1) ∧ s.inBounds ((s.sp.toNat : Int) - 2) ∧
        push16 s v =
          .ok { s with
            mem := (s.mem.write ((s.sp.toNat : Int) - 1).toNat (highByte v)).write
              ((s.sp.toNat : Int) - 2).toNat (lowByte v)
            sp := s.sp - 2#16 }) ∨
      (¬ s.inBounds ((s.sp.toNat : Int) - 1) ∧
        push16 s v = .error (.outOfBoundsAccess ((s.sp.toNat : Int) - 1))) ∨
      (s.inBounds ((s.sp.toNat : Int) - 1) ∧ ¬ s.inBounds ((s.sp.toNat : Int) - 2) ∧
        push16 s v = .error (.outOfBoundsAccess ((s.sp.toNat : Int) - 2))) := by
  by_cases h₁ : s.inBounds ((s.sp.toNat : Int) - 1)
  · by_cases h₂ : s.inBounds ((s.sp.toNat : Int) - 2)
    · exact .inl ⟨h₁, h₂, push16_ok v h₁ h₂⟩
    · exact .inr (.inr ⟨h₁, h₂, by simp only [push16, if_pos h₁, if_neg h₂]⟩)
  · exact .inr (.inl ⟨h₁, by simp only [push16, if_neg h₁]⟩)

/-- A pop in bounds (R131). -/
theorem pop16_ok {s : State} (h₀ : s.inBounds (s.sp.toNat : Int)) (h₁ : s.inBounds ((s.sp.toNat : Int) + 1)) :
    pop16 s =
      .ok (wordOf (s.mem.read ((s.sp.toNat : Int) + 1).toNat) (s.mem.read s.sp.toNat),
        { s with sp := s.sp + 2#16 }) := by
  simp only [pop16, memRead16_ok h₀ h₁, Int.toNat_natCast]

/-- Every outcome of a pop: Memory is unchanged (R131). -/
theorem pop16_cases (s : State) :
    (∃ v, pop16 s = .ok (v, { s with sp := s.sp + 2#16 })) ∨
      (∃ a, ¬ s.inBounds a ∧ pop16 s = .error (.outOfBoundsAccess a)) := by
  rcases memRead16_cases s s.sp.toNat with ⟨_, _, h⟩ | ⟨a, ha, h⟩
  · refine .inl ⟨wordOf (s.mem.read ((s.sp.toNat : Int) + 1).toNat) (s.mem.read (s.sp.toNat : Int).toNat), ?_⟩
    simp only [pop16, h]
  · exact .inr ⟨a, ha, by simp only [pop16, h]⟩

/-! ## The byte operand -/

/-- Every outcome of reading the right operand (R129). -/
theorem Src.value_cases (s : State) (src : Src) :
    (∃ v, src.value s = .ok v) ∨ (¬ s.inBounds s.addrM ∧ src.value s = .error (.outOfBoundsAccess s.addrM)) := by
  cases src with
  | reg r => exact .inl ⟨_, rfl⟩
  | imm d8 => exact .inl ⟨_, rfl⟩
  | mem =>
    by_cases h : s.inBounds s.addrM
    · exact .inl ⟨_, memRead_ok h⟩
    · exact .inr ⟨h, memRead_raises h⟩

/-! ## The frame of a handler -/

@[simp] theorem Handled.stay_state (t : State) : (Handled.stay t).state = t := rfl
@[simp] theorem Handled.stay_target (t : State) : (Handled.stay t).target = none := rfl
@[simp] theorem Handled.goto_state (t : State) (w : Word) : (Handled.goto t w).state = t := rfl
@[simp] theorem Handled.goto_target (t : State) (w : Word) : (Handled.goto t w).target = some w := rfl

/-- A handler that stays: the fall-through (R115). -/
theorem runHandler_stay {op : Byte} {s : State} (t : State) (h : handled s.cfg.handlers op = true) :
    runHandler op s (.ok (.stay t)) = .next (t.advance (fallThrough op s)) := by
  simp [runHandler, h]

/-- A handler that transfers control (R114). -/
theorem runHandler_goto {op : Byte} {s : State} (t : State) (w : Word) (h : handled s.cfg.handlers op = true) :
    runHandler op s (.ok (.goto t w)) = .next (t.advance w.toNat) := by
  simp [runHandler, h]

/-- A handler that raises: the start-of-step state with the error (R345, R346). -/
theorem runHandler_error {op : Byte} {s : State} (r : Raise) (h : handled s.cfg.handlers op = true) :
    runHandler op s (.error r) = .next (s.raise op r) := by
  simp [runHandler, h]

/-- A byte without a handler (R341). -/
theorem runHandler_unhandled {op : Byte} {s : State} (body : Except Raise Handled)
    (h : handled s.cfg.handlers op = false) :
    runHandler op s body = .next (s.raise op .unimplementedOpcode) := by
  simp [runHandler, h]

/-- Everything a handler's frame can answer. -/
theorem runHandler_cases {op : Byte} {s t : State} {body : Except Raise Handled}
    (h : runHandler op s body = .next t) :
    (handled s.cfg.handlers op = false ∧ t = s.raise op .unimplementedOpcode) ∨
      (handled s.cfg.handlers op = true ∧ ∃ r, body = .error r ∧ t = s.raise op r) ∨
      (handled s.cfg.handlers op = true ∧ ∃ k npc, body = .ok k ∧ t = k.state.advance npc) := by
  cases hh : handled s.cfg.handlers op with
  | false =>
    rw [runHandler_unhandled body hh] at h
    exact .inl ⟨rfl, (Host.Outcome.next.inj h).symm⟩
  | true =>
    simp only [runHandler, hh, if_true] at h
    split at h
    · exact .inr (.inl ⟨rfl, _, rfl, (Host.Outcome.next.inj h).symm⟩)
    · split at h
      · exact .inr (.inr ⟨rfl, _, _, rfl, (Host.Outcome.next.inj h).symm⟩)
      · exact .inr (.inr ⟨rfl, _, _, rfl, (Host.Outcome.next.inj h).symm⟩)

/-- A handler's frame always answers a next state. -/
theorem runHandler_next (op : Byte) (s : State) (body : Except Raise Handled) :
    ∃ t, runHandler op s body = .next t := by
  unfold runHandler
  repeat' split
  all_goals exact ⟨_, rfl⟩

end Sys2Proof.Machine
end

