-- ==== Sys2Proof/Laws/PerInstr.lean ====
section
/-! SUPPORT. The family EncodeLength, one lemma per constructor: the bytes of an instruction are its opcode byte and as
many operand bytes as R85 gives that byte, and its class is the one R95 gives that byte. -/

namespace Sys2Proof.Laws.EncodeLength

/-- The encoding has the length R85 looks up from its first byte, and that byte is of the class of the instruction. -/
def Statement (i : Instr) : Prop :=
  (encode i).length = 1 + operandLength i.opcode ∧ opClass i.opcode = i.opClass

theorem movBB : Statement (.movBB) := ⟨rfl, rfl⟩
theorem movBC : Statement (.movBC) := ⟨rfl, rfl⟩
theorem movBD : Statement (.movBD) := ⟨rfl, rfl⟩
theorem movBE : Statement (.movBE) := ⟨rfl, rfl⟩
theorem movBH : Statement (.movBH) := ⟨rfl, rfl⟩
theorem movBL : Statement (.movBL) := ⟨rfl, rfl⟩
theorem movBA : Statement (.movBA) := ⟨rfl, rfl⟩
theorem movCB : Statement (.movCB) := ⟨rfl, rfl⟩
theorem movCC : Statement (.movCC) := ⟨rfl, rfl⟩
theorem movCD : Statement (.movCD) := ⟨rfl, rfl⟩
theorem movCE : Statement (.movCE) := ⟨rfl, rfl⟩
theorem movCH : Statement (.movCH) := ⟨rfl, rfl⟩
theorem movCL : Statement (.movCL) := ⟨rfl, rfl⟩
theorem movCA : Statement (.movCA) := ⟨rfl, rfl⟩
theorem movDB : Statement (.movDB) := ⟨rfl, rfl⟩
theorem movDC : Statement (.movDC) := ⟨rfl, rfl⟩
theorem movDD : Statement (.movDD) := ⟨rfl, rfl⟩
theorem movDE : Statement (.movDE) := ⟨rfl, rfl⟩
theorem movDH : Statement (.movDH) := ⟨rfl, rfl⟩
theorem movDL : Statement (.movDL) := ⟨rfl, rfl⟩
theorem movDA : Statement (.movDA) := ⟨rfl, rfl⟩
theorem movEB : Statement (.movEB) := ⟨rfl, rfl⟩
theorem movEC : Statement (.movEC) := ⟨rfl, rfl⟩
theorem movED : Statement (.movED) := ⟨rfl, rfl⟩
theorem movEE : Statement (.movEE) := ⟨rfl, rfl⟩
theorem movEH : Statement (.movEH) := ⟨rfl, rfl⟩
theorem movEL : Statement (.movEL) := ⟨rfl, rfl⟩
theorem movEA : Statement (.movEA) := ⟨rfl, rfl⟩
theorem movHB : Statement (.movHB) := ⟨rfl, rfl⟩
theorem movHC : Statement (.movHC) := ⟨rfl, rfl⟩
theorem movHD : Statement (.movHD) := ⟨rfl, rfl⟩
theorem movHE : Statement (.movHE) := ⟨rfl, rfl⟩
theorem movHH : Statement (.movHH) := ⟨rfl, rfl⟩
theorem movHL : Statement (.movHL) := ⟨rfl, rfl⟩
theorem movHA : Statement (.movHA) := ⟨rfl, rfl⟩
theorem movLB : Statement (.movLB) := ⟨rfl, rfl⟩
theorem movLC : Statement (.movLC) := ⟨rfl, rfl⟩
theorem movLD : Statement (.movLD) := ⟨rfl, rfl⟩
theorem movLE : Statement (.movLE) := ⟨rfl, rfl⟩
theorem movLH : Statement (.movLH) := ⟨rfl, rfl⟩
theorem movLL : Statement (.movLL) := ⟨rfl, rfl⟩
theorem movLA : Statement (.movLA) := ⟨rfl, rfl⟩
theorem movAB : Statement (.movAB) := ⟨rfl, rfl⟩
theorem movAC : Statement (.movAC) := ⟨rfl, rfl⟩
theorem movAD : Statement (.movAD) := ⟨rfl, rfl⟩
theorem movAE : Statement (.movAE) := ⟨rfl, rfl⟩
theorem movAH : Statement (.movAH) := ⟨rfl, rfl⟩
theorem movAL : Statement (.movAL) := ⟨rfl, rfl⟩
theorem movAA : Statement (.movAA) := ⟨rfl, rfl⟩
theorem movBM : Statement (.movBM) := ⟨rfl, rfl⟩
theorem movCM : Statement (.movCM) := ⟨rfl, rfl⟩
theorem movDM : Statement (.movDM) := ⟨rfl, rfl⟩
theorem movEM : Statement (.movEM) := ⟨rfl, rfl⟩
theorem movHM : Statement (.movHM) := ⟨rfl, rfl⟩
theorem movLM : Statement (.movLM) := ⟨rfl, rfl⟩
theorem movAM : Statement (.movAM) := ⟨rfl, rfl⟩
theorem movMB : Statement (.movMB) := ⟨rfl, rfl⟩
theorem movMC : Statement (.movMC) := ⟨rfl, rfl⟩
theorem movMD : Statement (.movMD) := ⟨rfl, rfl⟩
theorem movME : Statement (.movME) := ⟨rfl, rfl⟩
theorem movMH : Statement (.movMH) := ⟨rfl, rfl⟩
theorem movML : Statement (.movML) := ⟨rfl, rfl⟩
theorem movMA : Statement (.movMA) := ⟨rfl, rfl⟩
theorem ldaxB : Statement (.ldaxB) := ⟨rfl, rfl⟩
theorem ldaxD : Statement (.ldaxD) := ⟨rfl, rfl⟩
theorem staxB : Statement (.staxB) := ⟨rfl, rfl⟩
theorem staxD : Statement (.staxD) := ⟨rfl, rfl⟩
theorem lxiB (d16 : Word) : Statement (.lxiB d16) := ⟨rfl, rfl⟩
theorem lxiD (d16 : Word) : Statement (.lxiD d16) := ⟨rfl, rfl⟩
theorem lxiH (d16 : Word) : Statement (.lxiH d16) := ⟨rfl, rfl⟩
theorem lxiSp (d16 : Word) : Statement (.lxiSp d16) := ⟨rfl, rfl⟩
theorem addB : Statement (.addB) := ⟨rfl, rfl⟩
theorem addC : Statement (.addC) := ⟨rfl, rfl⟩
theorem addD : Statement (.addD) := ⟨rfl, rfl⟩
theorem addE : Statement (.addE) := ⟨rfl, rfl⟩
theorem addH : Statement (.addH) := ⟨rfl, rfl⟩
theorem addL : Statement (.addL) := ⟨rfl, rfl⟩
theorem addA : Statement (.addA) := ⟨rfl, rfl⟩
theorem addM : Statement (.addM) := ⟨rfl, rfl⟩
theorem adcB : Statement (.adcB) := ⟨rfl, rfl⟩
theorem adcC : Statement (.adcC) := ⟨rfl, rfl⟩
theorem adcD : Statement (.adcD) := ⟨rfl, rfl⟩
theorem adcE : Statement (.adcE) := ⟨rfl, rfl⟩
theorem adcH : Statement (.adcH) := ⟨rfl, rfl⟩
theorem adcL : Statement (.adcL) := ⟨rfl, rfl⟩
theorem adcA : Statement (.adcA) := ⟨rfl, rfl⟩
theorem adcM : Statement (.adcM) := ⟨rfl, rfl⟩
theorem subB : Statement (.subB) := ⟨rfl, rfl⟩
theorem subC : Statement (.subC) := ⟨rfl, rfl⟩
theorem subD : Statement (.subD) := ⟨rfl, rfl⟩
theorem subE : Statement (.subE) := ⟨rfl, rfl⟩
theorem subH : Statement (.subH) := ⟨rfl, rfl⟩
theorem subL : Statement (.subL) := ⟨rfl, rfl⟩
theorem subA : Statement (.subA) := ⟨rfl, rfl⟩
theorem subM : Statement (.subM) := ⟨rfl, rfl⟩
theorem sbbB : Statement (.sbbB) := ⟨rfl, rfl⟩
theorem sbbC : Statement (.sbbC) := ⟨rfl, rfl⟩
theorem sbbD : Statement (.sbbD) := ⟨rfl, rfl⟩
theorem sbbE : Statement (.sbbE) := ⟨rfl, rfl⟩
theorem sbbH : Statement (.sbbH) := ⟨rfl, rfl⟩
theorem sbbL : Statement (.sbbL) := ⟨rfl, rfl⟩
theorem sbbA : Statement (.sbbA) := ⟨rfl, rfl⟩
theorem sbbM : Statement (.sbbM) := ⟨rfl, rfl⟩
theorem adi (d8 : Byte) : Statement (.adi d8) := ⟨rfl, rfl⟩
theorem aci (d8 : Byte) : Statement (.aci d8) := ⟨rfl, rfl⟩
theorem sui (d8 : Byte) : Statement (.sui d8) := ⟨rfl, rfl⟩
theorem sbi (d8 : Byte) : Statement (.sbi d8) := ⟨rfl, rfl⟩
theorem anaB : Statement (.anaB) := ⟨rfl, rfl⟩
theorem anaC : Statement (.anaC) := ⟨rfl, rfl⟩
theorem anaD : Statement (.anaD) := ⟨rfl, rfl⟩
theorem anaE : Statement (.anaE) := ⟨rfl, rfl⟩
theorem anaH : Statement (.anaH) := ⟨rfl, rfl⟩
theorem anaL : Statement (.anaL) := ⟨rfl, rfl⟩
theorem anaA : Statement (.anaA) := ⟨rfl, rfl⟩
theorem anaM : Statement (.anaM) := ⟨rfl, rfl⟩
theorem xraB : Statement (.xraB) := ⟨rfl, rfl⟩
theorem xraC : Statement (.xraC) := ⟨rfl, rfl⟩
theorem xraD : Statement (.xraD) := ⟨rfl, rfl⟩
theorem xraE : Statement (.xraE) := ⟨rfl, rfl⟩
theorem xraH : Statement (.xraH) := ⟨rfl, rfl⟩
theorem xraL : Statement (.xraL) := ⟨rfl, rfl⟩
theorem xraA : Statement (.xraA) := ⟨rfl, rfl⟩
theorem xraM : Statement (.xraM) := ⟨rfl, rfl⟩
theorem oraB : Statement (.oraB) := ⟨rfl, rfl⟩
theorem oraC : Statement (.oraC) := ⟨rfl, rfl⟩
theorem oraD : Statement (.oraD) := ⟨rfl, rfl⟩
theorem oraE : Statement (.oraE) := ⟨rfl, rfl⟩
theorem oraH : Statement (.oraH) := ⟨rfl, rfl⟩
theorem oraL : Statement (.oraL) := ⟨rfl, rfl⟩
theorem oraA : Statement (.oraA) := ⟨rfl, rfl⟩
theorem oraM : Statement (.oraM) := ⟨rfl, rfl⟩
theorem cmpB : Statement (.cmpB) := ⟨rfl, rfl⟩
theorem cmpC : Statement (.cmpC) := ⟨rfl, rfl⟩
theorem cmpD : Statement (.cmpD) := ⟨rfl, rfl⟩
theorem cmpE : Statement (.cmpE) := ⟨rfl, rfl⟩
theorem cmpH : Statement (.cmpH) := ⟨rfl, rfl⟩
theorem cmpL : Statement (.cmpL) := ⟨rfl, rfl⟩
theorem cmpA : Statement (.cmpA) := ⟨rfl, rfl⟩
theorem cmpM : Statement (.cmpM) := ⟨rfl, rfl⟩
theorem ani (d8 : Byte) : Statement (.ani d8) := ⟨rfl, rfl⟩
theorem xri (d8 : Byte) : Statement (.xri d8) := ⟨rfl, rfl⟩
theorem ori (d8 : Byte) : Statement (.ori d8) := ⟨rfl, rfl⟩
theorem cpi (d8 : Byte) : Statement (.cpi d8) := ⟨rfl, rfl⟩
theorem rlc : Statement (.rlc) := ⟨rfl, rfl⟩
theorem rrc : Statement (.rrc) := ⟨rfl, rfl⟩
theorem ral : Statement (.ral) := ⟨rfl, rfl⟩
theorem rar : Statement (.rar) := ⟨rfl, rfl⟩
theorem cma : Statement (.cma) := ⟨rfl, rfl⟩
theorem nop : Statement (.nop) := ⟨rfl, rfl⟩
theorem pushB : Statement (.pushB) := ⟨rfl, rfl⟩
theorem pushD : Statement (.pushD) := ⟨rfl, rfl⟩
theorem pushH : Statement (.pushH) := ⟨rfl, rfl⟩
theorem pushPsw : Statement (.pushPsw) := ⟨rfl, rfl⟩
theorem popB : Statement (.popB) := ⟨rfl, rfl⟩
theorem popD : Statement (.popD) := ⟨rfl, rfl⟩
theorem popH : Statement (.popH) := ⟨rfl, rfl⟩
theorem popPsw : Statement (.popPsw) := ⟨rfl, rfl⟩
theorem jmp (a16 : Word) : Statement (.jmp a16) := ⟨rfl, rfl⟩
theorem jnz (a16 : Word) : Statement (.jnz a16) := ⟨rfl, rfl⟩
theorem jz (a16 : Word) : Statement (.jz a16) := ⟨rfl, rfl⟩
theorem jnc (a16 : Word) : Statement (.jnc a16) := ⟨rfl, rfl⟩
theorem jc (a16 : Word) : Statement (.jc a16) := ⟨rfl, rfl⟩
theorem jpo (a16 : Word) : Statement (.jpo a16) := ⟨rfl, rfl⟩
theorem jpe (a16 : Word) : Statement (.jpe a16) := ⟨rfl, rfl⟩
theorem jp (a16 : Word) : Statement (.jp a16) := ⟨rfl, rfl⟩
theorem jm (a16 : Word) : Statement (.jm a16) := ⟨rfl, rfl⟩
theorem call (a16 : Word) : Statement (.call a16) := ⟨rfl, rfl⟩
theorem ret : Statement (.ret) := ⟨rfl, rfl⟩
theorem mviB (d8 : Byte) : Statement (.mviB d8) := ⟨rfl, rfl⟩
theorem mviC (d8 : Byte) : Statement (.mviC d8) := ⟨rfl, rfl⟩
theorem mviD (d8 : Byte) : Statement (.mviD d8) := ⟨rfl, rfl⟩
theorem mviE (d8 : Byte) : Statement (.mviE d8) := ⟨rfl, rfl⟩
theorem mviH (d8 : Byte) : Statement (.mviH d8) := ⟨rfl, rfl⟩
theorem mviL (d8 : Byte) : Statement (.mviL d8) := ⟨rfl, rfl⟩
theorem mviA (d8 : Byte) : Statement (.mviA d8) := ⟨rfl, rfl⟩
theorem mviM (d8 : Byte) : Statement (.mviM d8) := ⟨rfl, rfl⟩
theorem lda (a16 : Word) : Statement (.lda a16) := ⟨rfl, rfl⟩
theorem sta (a16 : Word) : Statement (.sta a16) := ⟨rfl, rfl⟩
theorem lhld (a16 : Word) : Statement (.lhld a16) := ⟨rfl, rfl⟩
theorem shld (a16 : Word) : Statement (.shld a16) := ⟨rfl, rfl⟩
theorem xchg : Statement (.xchg) := ⟨rfl, rfl⟩
theorem xthl : Statement (.xthl) := ⟨rfl, rfl⟩
theorem inrB : Statement (.inrB) := ⟨rfl, rfl⟩
theorem inrC : Statement (.inrC) := ⟨rfl, rfl⟩
theorem inrD : Statement (.inrD) := ⟨rfl, rfl⟩
theorem inrE : Statement (.inrE) := ⟨rfl, rfl⟩
theorem inrH : Statement (.inrH) := ⟨rfl, rfl⟩
theorem inrL : Statement (.inrL) := ⟨rfl, rfl⟩
theorem inrA : Statement (.inrA) := ⟨rfl, rfl⟩
theorem inrM : Statement (.inrM) := ⟨rfl, rfl⟩
theorem dcrB : Statement (.dcrB) := ⟨rfl, rfl⟩
theorem dcrC : Statement (.dcrC) := ⟨rfl, rfl⟩
theorem dcrD : Statement (.dcrD) := ⟨rfl, rfl⟩
theorem dcrE : Statement (.dcrE) := ⟨rfl, rfl⟩
theorem dcrH : Statement (.dcrH) := ⟨rfl, rfl⟩
theorem dcrL : Statement (.dcrL) := ⟨rfl, rfl⟩
theorem dcrA : Statement (.dcrA) := ⟨rfl, rfl⟩
theorem dcrM : Statement (.dcrM) := ⟨rfl, rfl⟩
theorem inxB : Statement (.inxB) := ⟨rfl, rfl⟩
theorem inxD : Statement (.inxD) := ⟨rfl, rfl⟩
theorem inxH : Statement (.inxH) := ⟨rfl, rfl⟩
theorem inxSp : Statement (.inxSp) := ⟨rfl, rfl⟩
theorem dcxB : Statement (.dcxB) := ⟨rfl, rfl⟩
theorem dcxD : Statement (.dcxD) := ⟨rfl, rfl⟩
theorem dcxH : Statement (.dcxH) := ⟨rfl, rfl⟩
theorem dcxSp : Statement (.dcxSp) := ⟨rfl, rfl⟩
theorem dadB : Statement (.dadB) := ⟨rfl, rfl⟩
theorem dadD : Statement (.dadD) := ⟨rfl, rfl⟩
theorem dadH : Statement (.dadH) := ⟨rfl, rfl⟩
theorem dadSp : Statement (.dadSp) := ⟨rfl, rfl⟩
theorem daa : Statement (.daa) := ⟨rfl, rfl⟩
theorem stc : Statement (.stc) := ⟨rfl, rfl⟩
theorem cmc : Statement (.cmc) := ⟨rfl, rfl⟩
theorem sphl : Statement (.sphl) := ⟨rfl, rfl⟩
theorem cnz (a16 : Word) : Statement (.cnz a16) := ⟨rfl, rfl⟩
theorem cz (a16 : Word) : Statement (.cz a16) := ⟨rfl, rfl⟩
theorem cnc (a16 : Word) : Statement (.cnc a16) := ⟨rfl, rfl⟩
theorem cc (a16 : Word) : Statement (.cc a16) := ⟨rfl, rfl⟩
theorem cpo (a16 : Word) : Statement (.cpo a16) := ⟨rfl, rfl⟩
theorem cpe (a16 : Word) : Statement (.cpe a16) := ⟨rfl, rfl⟩
theorem cp (a16 : Word) : Statement (.cp a16) := ⟨rfl, rfl⟩
theorem cm (a16 : Word) : Statement (.cm a16) := ⟨rfl, rfl⟩
theorem rnz : Statement (.rnz) := ⟨rfl, rfl⟩
theorem rz : Statement (.rz) := ⟨rfl, rfl⟩
theorem rnc : Statement (.rnc) := ⟨rfl, rfl⟩
theorem rc : Statement (.rc) := ⟨rfl, rfl⟩
theorem rpo : Statement (.rpo) := ⟨rfl, rfl⟩
theorem rpe : Statement (.rpe) := ⟨rfl, rfl⟩
theorem rp : Statement (.rp) := ⟨rfl, rfl⟩
theorem rm : Statement (.rm) := ⟨rfl, rfl⟩
theorem rst0 : Statement (.rst0) := ⟨rfl, rfl⟩
theorem rst1 : Statement (.rst1) := ⟨rfl, rfl⟩
theorem rst2 : Statement (.rst2) := ⟨rfl, rfl⟩
theorem rst3 : Statement (.rst3) := ⟨rfl, rfl⟩
theorem rst4 : Statement (.rst4) := ⟨rfl, rfl⟩
theorem rst5 : Statement (.rst5) := ⟨rfl, rfl⟩
theorem rst6 : Statement (.rst6) := ⟨rfl, rfl⟩
theorem rst7 : Statement (.rst7) := ⟨rfl, rfl⟩
theorem pchl : Statement (.pchl) := ⟨rfl, rfl⟩
theorem hlt : Statement (.hlt) := ⟨rfl, rfl⟩
theorem inPort : Statement (.inPort) := ⟨rfl, rfl⟩
theorem outPort : Statement (.outPort) := ⟨rfl, rfl⟩
theorem di : Statement (.di) := ⟨rfl, rfl⟩
theorem ei : Statement (.ei) := ⟨rfl, rfl⟩
theorem undoc08 : Statement (.undoc08) := ⟨rfl, rfl⟩
theorem undoc10 : Statement (.undoc10) := ⟨rfl, rfl⟩
theorem undoc18 : Statement (.undoc18) := ⟨rfl, rfl⟩
theorem undoc20 : Statement (.undoc20) := ⟨rfl, rfl⟩
theorem undoc28 : Statement (.undoc28) := ⟨rfl, rfl⟩
theorem undoc30 : Statement (.undoc30) := ⟨rfl, rfl⟩
theorem undoc38 : Statement (.undoc38) := ⟨rfl, rfl⟩
theorem undocCB : Statement (.undocCB) := ⟨rfl, rfl⟩
theorem undocD9 : Statement (.undocD9) := ⟨rfl, rfl⟩
theorem undocDD : Statement (.undocDD) := ⟨rfl, rfl⟩
theorem undocED : Statement (.undocED) := ⟨rfl, rfl⟩
theorem undocFD : Statement (.undocFD) := ⟨rfl, rfl⟩

end Sys2Proof.Laws.EncodeLength
end

