-- ==== Sys2Proof/Laws/Step.lean ====
section
/-! SUPPORT. What fetching and stepping can do, said once: every outcome of `fetch` and of `step`. -/

namespace Sys2Proof.Machine

/-- The instruction the map gives for an opcode byte has that opcode byte, whatever its operands (R87). -/
theorem instrOf_opcode (op b1 b2 : Byte) : (instrOf op b1 b2).opcode = op := by
  obtain ⟨n⟩ := op
  fin_cases n <;> rfl

/-- What a failed fetch of operand bytes has met: the address of the first one that is out of bounds (R112). -/
theorem fetchOperands_error {s : State} {op : Byte} {r : Raise} (h : fetchOperands s op = .error r) :
    ∃ a, r = .outOfBoundsAccess a ∧ ¬ s.inBounds a := by
  unfold fetchOperands at h
  simp only at h
  split at h
  · cases h
  · by_cases h₁ : s.inBounds ((s.pc.toNat : Int) + 1)
    · rw [memRead_ok h₁] at h
      cases h
    · rw [memRead_raises h₁] at h
      cases h
      exact ⟨_, rfl, h₁⟩
  · by_cases h₁ : s.inBounds ((s.pc.toNat : Int) + 1)
    · simp only [memRead_ok h₁] at h
      by_cases h₂ : s.inBounds ((s.pc.toNat : Int) + 2)
      · rw [memRead_ok h₂] at h
        cases h
      · rw [memRead_raises h₂] at h
        cases h
        exact ⟨_, rfl, h₂⟩
    · simp only [memRead_raises h₁] at h
      cases h
      exact ⟨_, rfl, h₁⟩

/-- Every outcome of FETCH and DECODE (R111, R112). -/
theorem fetch_cases (s : State) :
    (¬ s.inBounds (s.pc.toNat : Int) ∧ fetch s = .outside) ∨
      (s.inBounds (s.pc.toNat : Int) ∧ handled s.cfg.handlers (s.mem.read s.pc.toNat) = false ∧
        fetch s = .raised (s.mem.read s.pc.toNat) .unimplementedOpcode) ∨
      (s.inBounds (s.pc.toNat : Int) ∧ handled s.cfg.handlers (s.mem.read s.pc.toNat) = true ∧
        ∃ a, ¬ s.inBounds a ∧ fetch s = .raised (s.mem.read s.pc.toNat) (.outOfBoundsAccess a)) ∨
      (s.inBounds (s.pc.toNat : Int) ∧ handled s.cfg.handlers (s.mem.read s.pc.toNat) = true ∧
        ∃ b1 b2, fetchOperands s (s.mem.read s.pc.toNat) = .ok (b1, b2) ∧
          fetch s = .decoded (instrOf (s.mem.read s.pc.toNat) b1 b2)) := by
  by_cases hb : s.inBounds (s.pc.toNat : Int)
  · cases hh : handled s.cfg.handlers (s.mem.read s.pc.toNat) with
    | false =>
      refine .inr (.inl ⟨hb, rfl, ?_⟩)
      simp only [fetch, memRead_ok hb, Int.toNat_natCast, hh, Bool.false_eq_true, if_false]
    | true =>
      cases ho : fetchOperands s (s.mem.read s.pc.toNat) with
      | error r =>
        obtain ⟨a, rfl, ha⟩ := fetchOperands_error ho
        refine .inr (.inr (.inl ⟨hb, rfl, a, ha, ?_⟩))
        simp only [fetch, memRead_ok hb, Int.toNat_natCast, hh, if_true, ho]
      | ok b =>
        obtain ⟨b1, b2⟩ := b
        refine .inr (.inr (.inr ⟨hb, rfl, b1, b2, rfl, ?_⟩))
        simp only [fetch, memRead_ok hb, Int.toNat_natCast, hh, if_true, ho]
  · refine .inl ⟨hb, ?_⟩
    simp only [fetch, memRead_raises hb]

/-- What a step that answers a next state has done: the core was running, and it raised in DECODE or ran the decoded
instruction (R110, R118). -/
theorem step_cases {s t : State} (h : step s = .next t) :
    s.runState = .running ∧
      ((∃ op r, fetch s = .raised op r ∧ t = s.raise op r) ∨ ∃ i, fetch s = .decoded i ∧ exec i s = .next t) := by
  unfold step at h
  split at h
  · cases h
  · cases h
  · rename_i hr
    refine ⟨hr, ?_⟩
    split at h
    · cases h
    · rename_i op r hf
      exact .inl ⟨op, r, hf, (Host.Outcome.next.inj h).symm⟩
    · rename_i i hf
      exact .inr ⟨i, hf, h⟩

end Sys2Proof.Machine
end

