-- ==== Sys2Proof/Tests/Slice0.lean ====
section
/-! SUPPORT. The model's own tests: what WellFormed refuses, every opcode decoded from the bits the spec writes, single steps
with the results of `95_test_vectors.md`, the host's two fetch helpers, reset, and one witness for every statement with
hypotheses, clause by clause. -/

namespace Sys2Proof.Tests

open Sys2Proof.Machine Sys2Proof.Spec

/-! ## Helpers -/

/-- The baseline of `95_test_vectors.md` section 2. -/
def base : State :=
  { State.reset with
    sp := 0x2400#16
    pc := 0x0100#16
    runState := .running
    cfg := { memSize := 65536, programEnd := 0x10000, handlers := .full } }

/-- The baseline with `HANDLER_SET = F`. -/
def documented : State := { base with cfg := { base.cfg with handlers := .documented } }

/-- The baseline with `PROGRAM_END = n`. -/
def endingAt (n : Nat) : State := { base with cfg := { base.cfg with programEnd := n } }

/-- The baseline with 256 bytes of Memory. -/
def small : State :=
  { base with pc := 0x0000#16, cfg := { memSize := 256, programEnd := 256, handlers := .full } }

/-- Five flags from five bits, in the order Z S P CY AC. -/
def flags (z s p cy ac : Nat) : Flags := { z := z == 1, s := s == 1, p := p == 1, cy := cy == 1, ac := ac == 1 }

/-- What a next state shows. -/
def view {α : Type} (r : Answer) (f : State → α) : Option α :=
  match r with
  | .next t => some (f t)
  | .fault _ => none
  | .refused _ => none

/-- Place the bytes at PC and take one step. -/
def after {α : Type} (s : State) (bytes : List Byte) (f : State → α) : Option α :=
  view (step { s with mem := Memory.place s.cfg.memSize s.mem s.pc.toNat bytes }) f

/-- An error record of an access out of bounds. -/
def outOfBounds (op : Byte) (pc : Word) (addr : Int) : Option ErrRecord :=
  some { kind := .outOfBoundsAccess, opcode := op, pc := pc, addr := some addr }

/-- An error record of an opcode without a handler. -/
def unhandled (op : Byte) (pc : Word) : Option ErrRecord :=
  some { kind := .unimplementedOpcode, opcode := op, pc := pc, addr := none }

/-! ## What WellFormed refuses (R95, R320 to R325) -/

theorem test_wellFormed_refuses_classP :
    [Instr.hlt, .inPort, .outPort, .di, .ei].all (fun i => !i.WellFormed) = true := by decide

theorem test_wellFormed_refuses_classU :
    [Instr.undoc08, .undoc10, .undoc18, .undoc20, .undoc28, .undoc30, .undoc38, .undocCB, .undocD9, .undocDD, .undocED,
      .undocFD].all (fun i => !i.WellFormed) = true := by decide

theorem test_wellFormed_accepts_classF : (Instr.jmp 0xFFFF#16).WellFormed = true := by decide

theorem test_wellFormed_accepts_classX : (Instr.mviA 0xFF#8).WellFormed = true := by decide

/-! ## Every opcode, from the bits of its row in R83, followed by the bytes 34 12 (R85, R100) -/

/-- Whether the bytes `op 34 12` decode to `i`. -/
def reads (op : Byte) (i : Instr) : Bool :=
  match decode [op, 0x34#8, 0x12#8] with
  | .ok (j, _) => decide (j = i)
  | .error _ => false


theorem test_decode_row_0 :
    [reads 0b00000000#8 .nop, reads 0b00000001#8 (.lxiB 0x1234#16),
      reads 0b00000010#8 .staxB, reads 0b00000011#8 .inxB,
      reads 0b00000100#8 .inrB, reads 0b00000101#8 .dcrB,
      reads 0b00000110#8 (.mviB 0x34#8), reads 0b00000111#8 .rlc,
      reads 0b00001000#8 .undoc08, reads 0b00001001#8 .dadB,
      reads 0b00001010#8 .ldaxB, reads 0b00001011#8 .dcxB,
      reads 0b00001100#8 .inrC, reads 0b00001101#8 .dcrC,
      reads 0b00001110#8 (.mviC 0x34#8), reads 0b00001111#8 .rrc].all id = true := by
  decide

theorem test_decode_row_1 :
    [reads 0b00010000#8 .undoc10, reads 0b00010001#8 (.lxiD 0x1234#16),
      reads 0b00010010#8 .staxD, reads 0b00010011#8 .inxD,
      reads 0b00010100#8 .inrD, reads 0b00010101#8 .dcrD,
      reads 0b00010110#8 (.mviD 0x34#8), reads 0b00010111#8 .ral,
      reads 0b00011000#8 .undoc18, reads 0b00011001#8 .dadD,
      reads 0b00011010#8 .ldaxD, reads 0b00011011#8 .dcxD,
      reads 0b00011100#8 .inrE, reads 0b00011101#8 .dcrE,
      reads 0b00011110#8 (.mviE 0x34#8), reads 0b00011111#8 .rar].all id = true := by
  decide

theorem test_decode_row_2 :
    [reads 0b00100000#8 .undoc20, reads 0b00100001#8 (.lxiH 0x1234#16),
      reads 0b00100010#8 (.shld 0x1234#16), reads 0b00100011#8 .inxH,
      reads 0b00100100#8 .inrH, reads 0b00100101#8 .dcrH,
      reads 0b00100110#8 (.mviH 0x34#8), reads 0b00100111#8 .daa,
      reads 0b00101000#8 .undoc28, reads 0b00101001#8 .dadH,
      reads 0b00101010#8 (.lhld 0x1234#16), reads 0b00101011#8 .dcxH,
      reads 0b00101100#8 .inrL, reads 0b00101101#8 .dcrL,
      reads 0b00101110#8 (.mviL 0x34#8), reads 0b00101111#8 .cma].all id = true := by
  decide

theorem test_decode_row_3 :
    [reads 0b00110000#8 .undoc30, reads 0b00110001#8 (.lxiSp 0x1234#16),
      reads 0b00110010#8 (.sta 0x1234#16), reads 0b00110011#8 .inxSp,
      reads 0b00110100#8 .inrM, reads 0b00110101#8 .dcrM,
      reads 0b00110110#8 (.mviM 0x34#8), reads 0b00110111#8 .stc,
      reads 0b00111000#8 .undoc38, reads 0b00111001#8 .dadSp,
      reads 0b00111010#8 (.lda 0x1234#16), reads 0b00111011#8 .dcxSp,
      reads 0b00111100#8 .inrA, reads 0b00111101#8 .dcrA,
      reads 0b00111110#8 (.mviA 0x34#8), reads 0b00111111#8 .cmc].all id = true := by
  decide

theorem test_decode_row_4 :
    [reads 0b01000000#8 .movBB, reads 0b01000001#8 .movBC,
      reads 0b01000010#8 .movBD, reads 0b01000011#8 .movBE,
      reads 0b01000100#8 .movBH, reads 0b01000101#8 .movBL,
      reads 0b01000110#8 .movBM, reads 0b01000111#8 .movBA,
      reads 0b01001000#8 .movCB, reads 0b01001001#8 .movCC,
      reads 0b01001010#8 .movCD, reads 0b01001011#8 .movCE,
      reads 0b01001100#8 .movCH, reads 0b01001101#8 .movCL,
      reads 0b01001110#8 .movCM, reads 0b01001111#8 .movCA].all id = true := by
  decide

theorem test_decode_row_5 :
    [reads 0b01010000#8 .movDB, reads 0b01010001#8 .movDC,
      reads 0b01010010#8 .movDD, reads 0b01010011#8 .movDE,
      reads 0b01010100#8 .movDH, reads 0b01010101#8 .movDL,
      reads 0b01010110#8 .movDM, reads 0b01010111#8 .movDA,
      reads 0b01011000#8 .movEB, reads 0b01011001#8 .movEC,
      reads 0b01011010#8 .movED, reads 0b01011011#8 .movEE,
      reads 0b01011100#8 .movEH, reads 0b01011101#8 .movEL,
      reads 0b01011110#8 .movEM, reads 0b01011111#8 .movEA].all id = true := by
  decide

theorem test_decode_row_6 :
    [reads 0b01100000#8 .movHB, reads 0b01100001#8 .movHC,
      reads 0b01100010#8 .movHD, reads 0b01100011#8 .movHE,
      reads 0b01100100#8 .movHH, reads 0b01100101#8 .movHL,
      reads 0b01100110#8 .movHM, reads 0b01100111#8 .movHA,
      reads 0b01101000#8 .movLB, reads 0b01101001#8 .movLC,
      reads 0b01101010#8 .movLD, reads 0b01101011#8 .movLE,
      reads 0b01101100#8 .movLH, reads 0b01101101#8 .movLL,
      reads 0b01101110#8 .movLM, reads 0b01101111#8 .movLA].all id = true := by
  decide

theorem test_decode_row_7 :
    [reads 0b01110000#8 .movMB, reads 0b01110001#8 .movMC,
      reads 0b01110010#8 .movMD, reads 0b01110011#8 .movME,
      reads 0b01110100#8 .movMH, reads 0b01110101#8 .movML,
      reads 0b01110110#8 .hlt, reads 0b01110111#8 .movMA,
      reads 0b01111000#8 .movAB, reads 0b01111001#8 .movAC,
      reads 0b01111010#8 .movAD, reads 0b01111011#8 .movAE,
      reads 0b01111100#8 .movAH, reads 0b01111101#8 .movAL,
      reads 0b01111110#8 .movAM, reads 0b01111111#8 .movAA].all id = true := by
  decide

theorem test_decode_row_8 :
    [reads 0b10000000#8 .addB, reads 0b10000001#8 .addC,
      reads 0b10000010#8 .addD, reads 0b10000011#8 .addE,
      reads 0b10000100#8 .addH, reads 0b10000101#8 .addL,
      reads 0b10000110#8 .addM, reads 0b10000111#8 .addA,
      reads 0b10001000#8 .adcB, reads 0b10001001#8 .adcC,
      reads 0b10001010#8 .adcD, reads 0b10001011#8 .adcE,
      reads 0b10001100#8 .adcH, reads 0b10001101#8 .adcL,
      reads 0b10001110#8 .adcM, reads 0b10001111#8 .adcA].all id = true := by
  decide

theorem test_decode_row_9 :
    [reads 0b10010000#8 .subB, reads 0b10010001#8 .subC,
      reads 0b10010010#8 .subD, reads 0b10010011#8 .subE,
      reads 0b10010100#8 .subH, reads 0b10010101#8 .subL,
      reads 0b10010110#8 .subM, reads 0b10010111#8 .subA,
      reads 0b10011000#8 .sbbB, reads 0b10011001#8 .sbbC,
      reads 0b10011010#8 .sbbD, reads 0b10011011#8 .sbbE,
      reads 0b10011100#8 .sbbH, reads 0b10011101#8 .sbbL,
      reads 0b10011110#8 .sbbM, reads 0b10011111#8 .sbbA].all id = true := by
  decide

theorem test_decode_row_A :
    [reads 0b10100000#8 .anaB, reads 0b10100001#8 .anaC,
      reads 0b10100010#8 .anaD, reads 0b10100011#8 .anaE,
      reads 0b10100100#8 .anaH, reads 0b10100101#8 .anaL,
      reads 0b10100110#8 .anaM, reads 0b10100111#8 .anaA,
      reads 0b10101000#8 .xraB, reads 0b10101001#8 .xraC,
      reads 0b10101010#8 .xraD, reads 0b10101011#8 .xraE,
      reads 0b10101100#8 .xraH, reads 0b10101101#8 .xraL,
      reads 0b10101110#8 .xraM, reads 0b10101111#8 .xraA].all id = true := by
  decide

theorem test_decode_row_B :
    [reads 0b10110000#8 .oraB, reads 0b10110001#8 .oraC,
      reads 0b10110010#8 .oraD, reads 0b10110011#8 .oraE,
      reads 0b10110100#8 .oraH, reads 0b10110101#8 .oraL,
      reads 0b10110110#8 .oraM, reads 0b10110111#8 .oraA,
      reads 0b10111000#8 .cmpB, reads 0b10111001#8 .cmpC,
      reads 0b10111010#8 .cmpD, reads 0b10111011#8 .cmpE,
      reads 0b10111100#8 .cmpH, reads 0b10111101#8 .cmpL,
      reads 0b10111110#8 .cmpM, reads 0b10111111#8 .cmpA].all id = true := by
  decide

theorem test_decode_row_C :
    [reads 0b11000000#8 .rnz, reads 0b11000001#8 .popB,
      reads 0b11000010#8 (.jnz 0x1234#16), reads 0b11000011#8 (.jmp 0x1234#16),
      reads 0b11000100#8 (.cnz 0x1234#16), reads 0b11000101#8 .pushB,
      reads 0b11000110#8 (.adi 0x34#8), reads 0b11000111#8 .rst0,
      reads 0b11001000#8 .rz, reads 0b11001001#8 .ret,
      reads 0b11001010#8 (.jz 0x1234#16), reads 0b11001011#8 .undocCB,
      reads 0b11001100#8 (.cz 0x1234#16), reads 0b11001101#8 (.call 0x1234#16),
      reads 0b11001110#8 (.aci 0x34#8), reads 0b11001111#8 .rst1].all id = true := by
  decide

theorem test_decode_row_D :
    [reads 0b11010000#8 .rnc, reads 0b11010001#8 .popD,
      reads 0b11010010#8 (.jnc 0x1234#16), reads 0b11010011#8 .outPort,
      reads 0b11010100#8 (.cnc 0x1234#16), reads 0b11010101#8 .pushD,
      reads 0b11010110#8 (.sui 0x34#8), reads 0b11010111#8 .rst2,
      reads 0b11011000#8 .rc, reads 0b11011001#8 .undocD9,
      reads 0b11011010#8 (.jc 0x1234#16), reads 0b11011011#8 .inPort,
      reads 0b11011100#8 (.cc 0x1234#16), reads 0b11011101#8 .undocDD,
      reads 0b11011110#8 (.sbi 0x34#8), reads 0b11011111#8 .rst3].all id = true := by
  decide

theorem test_decode_row_E :
    [reads 0b11100000#8 .rpo, reads 0b11100001#8 .popH,
      reads 0b11100010#8 (.jpo 0x1234#16), reads 0b11100011#8 .xthl,
      reads 0b11100100#8 (.cpo 0x1234#16), reads 0b11100101#8 .pushH,
      reads 0b11100110#8 (.ani 0x34#8), reads 0b11100111#8 .rst4,
      reads 0b11101000#8 .rpe, reads 0b11101001#8 .pchl,
      reads 0b11101010#8 (.jpe 0x1234#16), reads 0b11101011#8 .xchg,
      reads 0b11101100#8 (.cpe 0x1234#16), reads 0b11101101#8 .undocED,
      reads 0b11101110#8 (.xri 0x34#8), reads 0b11101111#8 .rst5].all id = true := by
  decide

theorem test_decode_row_F :
    [reads 0b11110000#8 .rp, reads 0b11110001#8 .popPsw,
      reads 0b11110010#8 (.jp 0x1234#16), reads 0b11110011#8 .di,
      reads 0b11110100#8 (.cp 0x1234#16), reads 0b11110101#8 .pushPsw,
      reads 0b11110110#8 (.ori 0x34#8), reads 0b11110111#8 .rst6,
      reads 0b11111000#8 .rm, reads 0b11111001#8 .sphl,
      reads 0b11111010#8 (.jm 0x1234#16), reads 0b11111011#8 .ei,
      reads 0b11111100#8 (.cm 0x1234#16), reads 0b11111101#8 .undocFD,
      reads 0b11111110#8 (.cpi 0x34#8), reads 0b11111111#8 .rst7].all id = true := by
  decide

/-- The example of R100: `C3 34 12` is JMP 0x1234, and nothing is left over. -/
theorem test_decode_jmp_example :
    (decode [0xC3#8, 0x34#8, 0x12#8]).toOption = some (.jmp 0x1234#16, []) := by decide

/-- An operand that is cut off is refused by name. -/
theorem test_decode_refuses_short :
    (match decode [0x21#8, 0x34#8] with | .error e => some e | .ok _ => none) = some (.missingOperand 0x21#8) := by decide

/-! ## One step, with the results of `95_test_vectors.md` (the id of the vector ends the name) -/

theorem test_movBC_DM1 :
    after { base with regs := { base.regs with b := 0x12#8, c := 0x34#8 } }
        [0x41#8]
        (fun t => (t.regs.b, t.pc, t.flags)) =
      some (0x34#8, 0x0101#16, flags 0 0 0 0 0) := by decide

theorem test_movAM_DM4 :
    after { base with regs := { base.regs with h := 0x20#8, l := 0x10#8 }, mem := [(0x2010, 0xAB#8)] }
        [0x7E#8]
        (fun t => (t.regs.a, t.pc, t.flags)) =
      some (0xAB#8, 0x0101#16, flags 0 0 0 0 0) := by decide

theorem test_movMH_DM8 :
    after { base with regs := { base.regs with h := 0x20#8, l := 0x10#8 } }
        [0x74#8]
        (fun t => (t.mem.read 0x2010, t.pc, t.flags)) =
      some (0x20#8, 0x0101#16, flags 0 0 0 0 0) := by decide

theorem test_movMA_DM9 :
    after { base with regs := { base.regs with h := 0xFF#8, l := 0xFF#8, a := 0x01#8 } }
        [0x77#8]
        (fun t => (t.mem.read 0xFFFF, t.pc, t.flags)) =
      some (0x01#8, 0x0101#16, flags 0 0 0 0 0) := by decide

theorem test_ldaxB_DM10 :
    after { base with regs := { base.regs with b := 0x30#8, c := 0x00#8 }, mem := [(0x3000, 0x77#8)] }
        [0x0A#8]
        (fun t => (t.regs.a, t.pc, t.flags)) =
      some (0x77#8, 0x0101#16, flags 0 0 0 0 0) := by decide

theorem test_ldaxD_DM11 :
    after { base with regs := { base.regs with d := 0xFF#8, e := 0xFF#8 }, mem := [(0xFFFF, 0x99#8)] }
        [0x1A#8]
        (fun t => (t.regs.a, t.pc, t.flags)) =
      some (0x99#8, 0x0101#16, flags 0 0 0 0 0) := by decide

theorem test_staxB_DM12 :
    after { base with regs := { base.regs with b := 0x40#8, c := 0x02#8, a := 0x99#8 } }
        [0x02#8]
        (fun t => (t.mem.read 0x4002, t.pc, t.flags)) =
      some (0x99#8, 0x0101#16, flags 0 0 0 0 0) := by decide

theorem test_staxD_DM13 :
    after { base with regs := { base.regs with d := 0x00#8, e := 0x00#8, a := 0x11#8 } }
        [0x12#8]
        (fun t => (t.mem.read 0x0000, t.pc, t.flags)) =
      some (0x11#8, 0x0101#16, flags 0 0 0 0 0) := by decide

theorem test_lxiB_DM14 :
    after base
        [0x01#8, 0xEF#8, 0xBE#8]
        (fun t => (t.regs.b, t.regs.c, t.pc, t.flags)) =
      some (0xBE#8, 0xEF#8, 0x0103#16, flags 0 0 0 0 0) := by decide

theorem test_lxiH_DM16 :
    after base
        [0x21#8, 0x34#8, 0x12#8]
        (fun t => (t.regs.h, t.regs.l, t.pc, t.flags)) =
      some (0x12#8, 0x34#8, 0x0103#16, flags 0 0 0 0 0) := by decide

theorem test_lxiH_DM18 :
    after { base with pc := 0xFFFE#16 }
        [0x21#8, 0x34#8]
        (fun t => (t.runState, t.err, t.pc)) =
      some (.error, outOfBounds 0x21#8 0xFFFE#16 (0x10000), 0xFFFE#16) := by decide

theorem test_addB_AR1 :
    after { base with regs := { base.regs with a := 0x0F#8, b := 0x01#8 } }
        [0x80#8]
        (fun t => (t.regs.a, t.pc, t.flags)) =
      some (0x10#8, 0x0101#16, flags 0 0 0 0 1) := by decide

theorem test_addB_AR2 :
    after { base with regs := { base.regs with a := 0xFF#8, b := 0x01#8 } }
        [0x80#8]
        (fun t => (t.regs.a, t.pc, t.flags)) =
      some (0x00#8, 0x0101#16, flags 1 0 1 1 1) := by decide

theorem test_addA_AR9 :
    after { base with regs := { base.regs with a := 0x88#8 } }
        [0x87#8]
        (fun t => (t.regs.a, t.pc, t.flags)) =
      some (0x10#8, 0x0101#16, flags 0 0 0 1 1) := by decide

theorem test_addM_AR10 :
    after { base with regs := { base.regs with h := 0x20#8, l := 0x10#8, a := 0x01#8 }, mem := [(0x2010, 0xFF#8)] }
        [0x86#8]
        (fun t => (t.regs.a, t.pc, t.flags)) =
      some (0x00#8, 0x0101#16, flags 1 0 1 1 1) := by decide

theorem test_adcC_AR13 :
    after { base with regs := { base.regs with a := 0x3D#8, c := 0x42#8 }, flags := flags 0 0 0 1 0 }
        [0x89#8]
        (fun t => (t.regs.a, t.pc, t.flags)) =
      some (0x80#8, 0x0101#16, flags 0 1 0 0 1) := by decide

theorem test_adcM_AR19 :
    after { base with regs := { base.regs with h := 0x20#8, l := 0x10#8, a := 0x0E#8 }, flags := flags 0 0 0 1 0, mem := [(0x2010, 0x01#8)] }
        [0x8E#8]
        (fun t => (t.regs.a, t.pc, t.flags)) =
      some (0x10#8, 0x0101#16, flags 0 0 0 0 1) := by decide

theorem test_subD_AR21 :
    after { base with regs := { base.regs with a := 0x00#8, d := 0x01#8 } }
        [0x92#8]
        (fun t => (t.regs.a, t.pc, t.flags)) =
      some (0xFF#8, 0x0101#16, flags 0 1 1 1 1) := by decide

theorem test_sbbE_AR32 :
    after { base with regs := { base.regs with a := 0x00#8, e := 0xFF#8 }, flags := flags 0 0 0 1 0 }
        [0x9B#8]
        (fun t => (t.pc, t.flags)) =
      some (0x0101#16, flags 1 0 1 1 1) := by decide

theorem test_sbbE_AR33 :
    after { base with regs := { base.regs with a := 0x10#8, e := 0x0F#8 }, flags := flags 0 0 0 1 0 }
        [0x9B#8]
        (fun t => (t.regs.a, t.pc, t.flags)) =
      some (0x00#8, 0x0101#16, flags 1 0 1 0 1) := by decide

theorem test_adi_AR38 :
    after { base with regs := { base.regs with a := 0x14#8 } }
        [0xC6#8, 0x42#8]
        (fun t => (t.regs.a, t.pc, t.flags)) =
      some (0x56#8, 0x0102#16, flags 0 0 1 0 0) := by decide

theorem test_adi_AR46 :
    after { base with regs := { base.regs with a := 0x01#8 }, pc := 0xFFFF#16 }
        [0xC6#8, 0x01#8]
        (fun t => (t.runState, t.err, t.pc)) =
      some (.error, outOfBounds 0xC6#8 0xFFFF#16 (0x10000), 0xFFFF#16) := by decide

theorem test_aci_AR41 :
    after { base with regs := { base.regs with a := 0xFF#8 }, flags := flags 0 0 0 1 0 }
        [0xCE#8, 0x00#8]
        (fun t => (t.regs.a, t.pc, t.flags)) =
      some (0x00#8, 0x0102#16, flags 1 0 1 1 1) := by decide

theorem test_sui_AR42 :
    after { base with regs := { base.regs with a := 0x00#8 } }
        [0xD6#8, 0x01#8]
        (fun t => (t.regs.a, t.pc, t.flags)) =
      some (0xFF#8, 0x0102#16, flags 0 1 1 1 1) := by decide

theorem test_sbi_AR45 :
    after { base with regs := { base.regs with a := 0x00#8 } }
        [0xDE#8, 0x01#8]
        (fun t => (t.regs.a, t.pc, t.flags)) =
      some (0xFF#8, 0x0102#16, flags 0 1 1 1 1) := by decide

theorem test_anaB_LG2 :
    after { base with regs := { base.regs with a := 0xF7#8, b := 0xF7#8 }, flags := flags 0 0 0 1 0 }
        [0xA0#8]
        (fun t => (t.pc, t.flags)) =
      some (0x0101#16, flags 0 1 0 0 0) := by decide

theorem test_anaB_LG3 :
    after { base with regs := { base.regs with a := 0x08#8, b := 0x00#8 }, flags := flags 0 0 0 1 0 }
        [0xA0#8]
        (fun t => (t.regs.a, t.pc, t.flags)) =
      some (0x00#8, 0x0101#16, flags 1 0 1 0 1) := by decide

theorem test_xraB_LG8 :
    after { base with regs := { base.regs with a := 0x5C#8, b := 0x78#8 }, flags := flags 0 0 0 1 1 }
        [0xA8#8]
        (fun t => (t.regs.a, t.pc, t.flags)) =
      some (0x24#8, 0x0101#16, flags 0 0 1 0 0) := by decide

theorem test_xraA_LG9 :
    after { base with regs := { base.regs with a := 0x9D#8 }, flags := flags 0 0 0 1 1 }
        [0xAF#8]
        (fun t => (t.regs.a, t.pc, t.flags)) =
      some (0x00#8, 0x0101#16, flags 1 0 1 0 0) := by decide

theorem test_oraC_LG11 :
    after { base with regs := { base.regs with a := 0x33#8, c := 0x0F#8 }, flags := flags 0 0 0 1 1 }
        [0xB1#8]
        (fun t => (t.regs.a, t.pc, t.flags)) =
      some (0x3F#8, 0x0101#16, flags 0 0 1 0 0) := by decide

theorem test_ani_LG15 :
    after { base with regs := { base.regs with a := 0x3A#8 } }
        [0xE6#8, 0x0F#8]
        (fun t => (t.regs.a, t.pc, t.flags)) =
      some (0x0A#8, 0x0102#16, flags 0 0 1 0 1) := by decide

theorem test_xri_LG17 :
    after { base with regs := { base.regs with a := 0x3B#8 } }
        [0xEE#8, 0x81#8]
        (fun t => (t.regs.a, t.pc, t.flags)) =
      some (0xBA#8, 0x0102#16, flags 0 1 0 0 0) := by decide

theorem test_ori_LG19 :
    after { base with regs := { base.regs with a := 0xB5#8 } }
        [0xF6#8, 0x0F#8]
        (fun t => (t.regs.a, t.pc, t.flags)) =
      some (0xBF#8, 0x0102#16, flags 0 1 0 0 0) := by decide

theorem test_cmpE_LG22 :
    after { base with regs := { base.regs with a := 0x0A#8, e := 0x05#8 }, flags := flags 0 0 0 0 1 }
        [0xBB#8]
        (fun t => (t.pc, t.flags)) =
      some (0x0101#16, flags 0 0 1 0 1) := by decide

theorem test_cpi_LG30 :
    after { base with regs := { base.regs with a := 0x4A#8 }, flags := flags 0 0 0 0 1 }
        [0xFE#8, 0x40#8]
        (fun t => (t.pc, t.flags)) =
      some (0x0102#16, flags 0 0 1 0 1) := by decide

theorem test_rlc_RT1 :
    after { base with regs := { base.regs with a := 0xF2#8 } }
        [0x07#8]
        (fun t => (t.regs.a, t.pc, t.flags)) =
      some (0xE5#8, 0x0101#16, flags 0 0 0 1 0) := by decide

theorem test_rlc_RT21 :
    after { base with regs := { base.regs with a := 0x00#8 }, flags := flags 0 1 0 0 1 }
        [0x07#8]
        (fun t => (t.pc, t.flags)) =
      some (0x0101#16, flags 0 1 0 0 1) := by decide

theorem test_rrc_RT6 :
    after { base with regs := { base.regs with a := 0xF2#8 }, flags := flags 0 0 0 1 0 }
        [0x0F#8]
        (fun t => (t.regs.a, t.pc, t.flags)) =
      some (0x79#8, 0x0101#16, flags 0 0 0 0 0) := by decide

theorem test_ral_RT12 :
    after { base with regs := { base.regs with a := 0xB5#8 }, flags := flags 0 0 0 1 0 }
        [0x17#8]
        (fun t => (t.regs.a, t.pc, t.flags)) =
      some (0x6B#8, 0x0101#16, flags 0 0 0 1 0) := by decide

theorem test_rar_RT16 :
    after { base with regs := { base.regs with a := 0x6A#8 }, flags := flags 0 0 0 1 0 }
        [0x1F#8]
        (fun t => (t.regs.a, t.pc, t.flags)) =
      some (0xB5#8, 0x0101#16, flags 0 0 0 0 0) := by decide

theorem test_cma_RT23 :
    after { base with regs := { base.regs with a := 0xFF#8 }, flags := flags 0 1 0 1 0 }
        [0x2F#8]
        (fun t => (t.regs.a, t.pc, t.flags)) =
      some (0x00#8, 0x0101#16, flags 0 1 0 1 0) := by decide

theorem test_nop_RT27 :
    after { base with pc := 0xFFFF#16 }
        [0x00#8]
        (fun t => (t.pc, t.runState, t.flags)) =
      some (0x0000#16, .halt, flags 0 0 0 0 0) := by decide

theorem test_pushB_ST1 :
    after { base with regs := { base.regs with b := 0x12#8, c := 0x34#8 } }
        [0xC5#8]
        (fun t => (t.sp, t.mem.read 0x23FE, t.mem.read 0x23FF, t.pc, t.flags)) =
      some (0x23FE#16, 0x34#8, 0x12#8, 0x0101#16, flags 0 0 0 0 0) := by decide

theorem test_pushH_ST3 :
    after { base with regs := { base.regs with h := 0x01#8, l := 0x02#8 }, sp := 0x0001#16 }
        [0xE5#8]
        (fun t => (t.runState, t.err, t.pc)) =
      some (.error, outOfBounds 0xE5#8 0x0100#16 (-1), 0x0100#16) := by decide

theorem test_pushH_ST5 :
    after { base with regs := { base.regs with h := 0x01#8, l := 0x02#8 }, sp := 0xFFFF#16 }
        [0xE5#8]
        (fun t => (t.sp, t.mem.read 0xFFFD, t.mem.read 0xFFFE, t.pc, t.flags)) =
      some (0xFFFD#16, 0x02#8, 0x01#8, 0x0101#16, flags 0 0 0 0 0) := by decide

theorem test_pushPsw_ST6 :
    after { base with regs := { base.regs with a := 0x1F#8 }, flags := flags 1 0 1 1 0 }
        [0xF5#8]
        (fun t => (t.sp, t.mem.read 0x23FE, t.mem.read 0x23FF, t.pc, t.flags)) =
      some (0x23FE#16, 0x47#8, 0x1F#8, 0x0101#16, flags 1 0 1 1 0) := by decide

theorem test_popD_ST10 :
    after { base with sp := 0xFFFE#16, mem := [(0xFFFE, 0xCD#8), (0xFFFF, 0xAB#8)] }
        [0xD1#8]
        (fun t => (t.regs.d, t.regs.e, t.sp, t.pc, t.flags)) =
      some (0xAB#8, 0xCD#8, 0x0000#16, 0x0101#16, flags 0 0 0 0 0) := by decide

theorem test_popH_ST11 :
    after { base with sp := 0xFFFF#16, mem := [(0xFFFF, 0xAB#8)] }
        [0xE1#8]
        (fun t => (t.runState, t.err, t.pc)) =
      some (.error, outOfBounds 0xE1#8 0x0100#16 (0x10000), 0x0100#16) := by decide

theorem test_popPsw_ST13 :
    after { base with sp := 0x23FE#16, mem := [(0x23FE, 0xC3#8), (0x23FF, 0xFF#8)] }
        [0xF1#8]
        (fun t => (t.regs.a, t.sp, t.pc, t.flags)) =
      some (0xFF#8, 0x2400#16, 0x0101#16, flags 1 1 0 1 0) := by decide

theorem test_popPsw_ST14 :
    after { base with sp := 0x23FE#16, flags := flags 1 1 1 1 1, mem := [(0x23FE, 0x28#8), (0x23FF, 0x01#8)] }
        [0xF1#8]
        (fun t => (t.regs.a, t.sp, t.pc, t.flags)) =
      some (0x01#8, 0x2400#16, 0x0101#16, flags 0 0 0 0 0) := by decide

theorem test_jmp_BR3 :
    after (endingAt 0x8000)
        [0xC3#8, 0x00#8, 0x90#8]
        (fun t => (t.pc, t.runState, t.flags)) =
      some (0x9000#16, .halt, flags 0 0 0 0 0) := by decide

theorem test_jz_BR7 :
    after base
        [0xCA#8, 0x34#8, 0x12#8]
        (fun t => (t.pc, t.flags)) =
      some (0x0103#16, flags 0 0 0 0 0) := by decide

theorem test_jz_BR8 :
    after { base with flags := flags 1 0 0 0 0 }
        [0xCA#8, 0x34#8, 0x12#8]
        (fun t => (t.pc, t.flags)) =
      some (0x1234#16, flags 1 0 0 0 0) := by decide

theorem test_jpo_BR14 :
    after { base with flags := flags 0 0 1 0 0 }
        [0xE2#8, 0x34#8, 0x12#8]
        (fun t => (t.pc, t.flags)) =
      some (0x0103#16, flags 0 0 1 0 0) := by decide

theorem test_jp_BR17 :
    after base
        [0xF2#8, 0x34#8, 0x12#8]
        (fun t => (t.pc, t.flags)) =
      some (0x1234#16, flags 0 0 0 0 0) := by decide

theorem test_jm_BR20 :
    after { base with flags := flags 0 1 0 0 0 }
        [0xFA#8, 0x34#8, 0x12#8]
        (fun t => (t.pc, t.flags)) =
      some (0x1234#16, flags 0 1 0 0 0) := by decide

theorem test_call_BR24 :
    after { base with pc := 0xFFFD#16, mem := [(0x23FE, 0xEE#8), (0x23FF, 0xEE#8)] }
        [0xCD#8, 0x00#8, 0x02#8]
        (fun t => (t.sp, t.mem.read 0x23FE, t.mem.read 0x23FF, t.pc, t.flags)) =
      some (0x23FE#16, 0x00#8, 0x00#8, 0x0200#16, flags 0 0 0 0 0) := by decide

theorem test_call_BR25 :
    after { base with sp := 0x0001#16 }
        [0xCD#8, 0x00#8, 0x02#8]
        (fun t => (t.runState, t.err, t.pc)) =
      some (.error, outOfBounds 0xCD#8 0x0100#16 (-1), 0x0100#16) := by decide

theorem test_ret_BR28 :
    after { base with pc := 0x0200#16, sp := 0x23FE#16, mem := [(0x23FE, 0x03#8), (0x23FF, 0x01#8)] }
        [0xC9#8]
        (fun t => (t.sp, t.pc, t.flags)) =
      some (0x2400#16, 0x0103#16, flags 0 0 0 0 0) := by decide

theorem test_ret_BR30 :
    after { endingAt 0x8000 with sp := 0xFFFE#16, mem := [(0xFFFF, 0x90#8)] }
        [0xC9#8]
        (fun t => (t.sp, t.pc, t.runState, t.flags)) =
      some (0x0000#16, 0x9000#16, .halt, flags 0 0 0 0 0) := by decide

theorem test_mviM_XA2 :
    after { base with regs := { base.regs with h := 0x20#8, l := 0x10#8 } }
        [0x36#8, 0xFF#8]
        (fun t => (t.mem.read 0x2010, t.pc, t.flags)) =
      some (0xFF#8, 0x0102#16, flags 0 0 0 0 0) := by decide

theorem test_mviB_XA3 :
    after { base with pc := 0xFFFF#16 }
        [0x06#8, 0x01#8]
        (fun t => (t.runState, t.err, t.pc)) =
      some (.error, outOfBounds 0x06#8 0xFFFF#16 (0x10000), 0xFFFF#16) := by decide

theorem test_lda_XA4 :
    after { base with mem := [(0x0300, 0x7C#8)] }
        [0x3A#8, 0x00#8, 0x03#8]
        (fun t => (t.regs.a, t.pc, t.flags)) =
      some (0x7C#8, 0x0103#16, flags 0 0 0 0 0) := by decide

theorem test_sta_XA5 :
    after { base with regs := { base.regs with a := 0x42#8 } }
        [0x32#8, 0xB3#8, 0x05#8]
        (fun t => (t.mem.read 0x05B3, t.pc, t.flags)) =
      some (0x42#8, 0x0103#16, flags 0 0 0 0 0) := by decide

theorem test_lhld_XA6 :
    after { base with mem := [(0x025B, 0xFF#8), (0x025C, 0x03#8)] }
        [0x2A#8, 0x5B#8, 0x02#8]
        (fun t => (t.regs.h, t.regs.l, t.pc, t.flags)) =
      some (0x03#8, 0xFF#8, 0x0103#16, flags 0 0 0 0 0) := by decide

theorem test_lhld_XA7 :
    after { base with regs := { base.regs with h := 0x11#8, l := 0x22#8 }, mem := [(0xFFFF, 0x77#8)] }
        [0x2A#8, 0xFF#8, 0xFF#8]
        (fun t => (t.runState, t.err, t.pc)) =
      some (.error, outOfBounds 0x2A#8 0x0100#16 (0x10000), 0x0100#16) := by decide

theorem test_shld_XA8 :
    after { base with regs := { base.regs with h := 0xAE#8, l := 0x29#8 }, pc := 0x0000#16 }
        [0x22#8, 0x0A#8, 0x01#8]
        (fun t => (t.mem.read 0x010A, t.mem.read 0x010B, t.pc, t.flags)) =
      some (0x29#8, 0xAE#8, 0x0003#16, flags 0 0 0 0 0) := by decide

theorem test_shld_XA9 :
    after { base with regs := { base.regs with h := 0xAE#8, l := 0x29#8 } }
        [0x22#8, 0xFF#8, 0xFF#8]
        (fun t => (t.runState, t.err, t.pc)) =
      some (.error, outOfBounds 0x22#8 0x0100#16 (0x10000), 0x0100#16) := by decide

theorem test_xchg_XA10 :
    after { base with regs := { base.regs with h := 0x00#8, l := 0xFF#8, d := 0x33#8, e := 0x55#8 } }
        [0xEB#8]
        (fun t => (t.regs.d, t.regs.e, t.regs.h, t.regs.l, t.pc, t.flags)) =
      some (0x00#8, 0xFF#8, 0x33#8, 0x55#8, 0x0101#16, flags 0 0 0 0 0) := by decide

theorem test_xthl_XA11 :
    after { base with regs := { base.regs with h := 0x0B#8, l := 0x3C#8 }, sp := 0x10AD#16, mem := [(0x10AD, 0xF0#8), (0x10AE, 0x0D#8)] }
        [0xE3#8]
        (fun t => (t.regs.h, t.regs.l, t.mem.read 0x10AD, t.mem.read 0x10AE, t.pc, t.flags)) =
      some (0x0D#8, 0xF0#8, 0x3C#8, 0x0B#8, 0x0101#16, flags 0 0 0 0 0) := by decide

theorem test_xthl_XA12 :
    after { base with regs := { base.regs with h := 0x0B#8, l := 0x3C#8 }, sp := 0xFFFF#16, mem := [(0xFFFF, 0xF0#8)] }
        [0xE3#8]
        (fun t => (t.runState, t.err, t.pc)) =
      some (.error, outOfBounds 0xE3#8 0x0100#16 (0x10000), 0x0100#16) := by decide

theorem test_sphl_XA13 :
    after { base with regs := { base.regs with h := 0x50#8, l := 0x6C#8 } }
        [0xF9#8]
        (fun t => (t.sp, t.pc, t.flags)) =
      some (0x506C#16, 0x0101#16, flags 0 0 0 0 0) := by decide

theorem test_inrC_XA15 :
    after { base with regs := { base.regs with c := 0xFF#8 }, flags := flags 0 0 0 1 0 }
        [0x0C#8]
        (fun t => (t.regs.c, t.pc, t.flags)) =
      some (0x00#8, 0x0101#16, flags 1 0 1 1 1) := by decide

theorem test_inrM_XA19 :
    after { base with regs := { base.regs with h := 0x20#8, l := 0x10#8 }, mem := [(0x2010, 0xFF#8)] }
        [0x34#8]
        (fun t => (t.mem.read 0x2010, t.pc, t.flags)) =
      some (0x00#8, 0x0101#16, flags 1 0 1 0 1) := by decide

theorem test_dcrH_XA20 :
    after { base with regs := { base.regs with h := 0x00#8 }, flags := flags 0 0 0 1 0 }
        [0x25#8]
        (fun t => (t.regs.h, t.pc, t.flags)) =
      some (0xFF#8, 0x0101#16, flags 0 1 1 1 1) := by decide

theorem test_dcrM_XA25 :
    after { base with regs := { base.regs with h := 0x20#8, l := 0x10#8 }, mem := [(0x2010, 0x10#8)] }
        [0x35#8]
        (fun t => (t.mem.read 0x2010, t.pc, t.flags)) =
      some (0x0F#8, 0x0101#16, flags 0 0 1 0 1) := by decide

theorem test_inxB_XA27 :
    after { base with regs := { base.regs with b := 0xFF#8, c := 0xFF#8 } }
        [0x03#8]
        (fun t => (t.regs.b, t.regs.c, t.pc, t.flags)) =
      some (0x00#8, 0x00#8, 0x0101#16, flags 0 0 0 0 0) := by decide

theorem test_inxSp_XA28 :
    after { base with sp := 0xFFFF#16 }
        [0x33#8]
        (fun t => (t.sp, t.pc, t.flags)) =
      some (0x0000#16, 0x0101#16, flags 0 0 0 0 0) := by decide

theorem test_dcxB_XA30 :
    after { base with regs := { base.regs with b := 0x00#8, c := 0x00#8 } }
        [0x0B#8]
        (fun t => (t.regs.b, t.regs.c, t.pc, t.flags)) =
      some (0xFF#8, 0xFF#8, 0x0101#16, flags 0 0 0 0 0) := by decide

theorem test_dadD_XA33 :
    after { base with regs := { base.regs with h := 0xFF#8, l := 0xFF#8, d := 0x00#8, e := 0x01#8 } }
        [0x19#8]
        (fun t => (t.regs.h, t.regs.l, t.pc, t.flags)) =
      some (0x00#8, 0x00#8, 0x0101#16, flags 0 0 0 1 0) := by decide

theorem test_dadSp_XA35 :
    after { base with regs := { base.regs with h := 0x00#8, l := 0x10#8 }, flags := flags 0 0 0 1 0 }
        [0x39#8]
        (fun t => (t.regs.h, t.pc, t.flags)) =
      some (0x24#8, 0x0101#16, flags 0 0 0 0 0) := by decide

theorem test_daa_XA42 :
    after { base with regs := { base.regs with a := 0x9A#8 } }
        [0x27#8]
        (fun t => (t.regs.a, t.pc, t.flags)) =
      some (0x00#8, 0x0101#16, flags 1 0 1 1 1) := by decide

theorem test_daa_XA43 :
    after { base with regs := { base.regs with a := 0x00#8 }, flags := flags 0 0 0 1 0 }
        [0x27#8]
        (fun t => (t.regs.a, t.pc, t.flags)) =
      some (0x60#8, 0x0101#16, flags 0 0 1 1 0) := by decide

theorem test_stc_XA48 :
    after { base with flags := flags 1 0 0 1 0 }
        [0x37#8]
        (fun t => (t.pc, t.flags)) =
      some (0x0101#16, flags 1 0 0 1 0) := by decide

theorem test_cmc_XA49 :
    after { base with flags := flags 0 0 0 1 0 }
        [0x3F#8]
        (fun t => (t.pc, t.flags)) =
      some (0x0101#16, flags 0 0 0 0 0) := by decide

theorem test_cmc_XA50 :
    after { base with flags := flags 0 0 0 0 1 }
        [0x3F#8]
        (fun t => (t.pc, t.flags)) =
      some (0x0101#16, flags 0 0 0 1 1) := by decide

theorem test_cc_XC8 :
    after { base with flags := flags 0 0 0 1 0 }
        [0xDC#8, 0x00#8, 0x02#8]
        (fun t => (t.sp, t.mem.read 0x23FE, t.mem.read 0x23FF, t.pc, t.flags)) =
      some (0x23FE#16, 0x03#8, 0x01#8, 0x0200#16, flags 0 0 0 1 0) := by decide

theorem test_cpe_XC12 :
    after { base with flags := flags 0 0 1 0 0 }
        [0xEC#8, 0x00#8, 0x02#8]
        (fun t => (t.sp, t.mem.read 0x23FE, t.mem.read 0x23FF, t.pc, t.flags)) =
      some (0x23FE#16, 0x03#8, 0x01#8, 0x0200#16, flags 0 0 1 0 0) := by decide

theorem test_cp_XC14 :
    after { base with flags := flags 0 1 0 0 0 }
        [0xF4#8, 0x00#8, 0x02#8]
        (fun t => (t.pc, t.flags)) =
      some (0x0103#16, flags 0 1 0 0 0) := by decide

theorem test_cz_XC34 :
    after { base with sp := 0x0001#16 }
        [0xCC#8, 0x00#8, 0x02#8]
        (fun t => (t.pc, t.flags)) =
      some (0x0103#16, flags 0 0 0 0 0) := by decide

theorem test_rz_XC37 :
    after { base with sp := 0xFFFF#16 }
        [0xC8#8]
        (fun t => (t.pc, t.flags)) =
      some (0x0101#16, flags 0 0 0 0 0) := by decide

theorem test_rnc_XC21 :
    after { base with sp := 0x23FE#16, pc := 0x0200#16, mem := [(0x23FE, 0x03#8), (0x23FF, 0x01#8)] }
        [0xD0#8]
        (fun t => (t.sp, t.pc, t.flags)) =
      some (0x2400#16, 0x0103#16, flags 0 0 0 0 0) := by decide

theorem test_rpe_XC28 :
    after { base with sp := 0x23FE#16, pc := 0x0200#16, flags := flags 0 0 1 0 0, mem := [(0x23FE, 0x03#8), (0x23FF, 0x01#8)] }
        [0xE8#8]
        (fun t => (t.sp, t.pc, t.flags)) =
      some (0x2400#16, 0x0103#16, flags 0 0 1 0 0) := by decide

theorem test_rm_XC32 :
    after { base with sp := 0x23FE#16, pc := 0x0200#16, flags := flags 0 1 0 0 0, mem := [(0x23FE, 0x03#8), (0x23FF, 0x01#8)] }
        [0xF8#8]
        (fun t => (t.sp, t.pc, t.flags)) =
      some (0x2400#16, 0x0103#16, flags 0 1 0 0 0) := by decide

theorem test_rst2_XC40 :
    after { base with pc := 0x0123#16 }
        [0xD7#8]
        (fun t => (t.sp, t.mem.read 0x23FE, t.mem.read 0x23FF, t.pc, t.flags)) =
      some (0x23FE#16, 0x24#8, 0x01#8, 0x0010#16, flags 0 0 0 0 0) := by decide

theorem test_rst7_XC46 :
    after { base with sp := 0x0000#16 }
        [0xFF#8]
        (fun t => (t.runState, t.err, t.pc)) =
      some (.error, outOfBounds 0xFF#8 0x0100#16 (-1), 0x0100#16) := by decide

theorem test_rst0_XC47 :
    after { base with pc := 0xFFFF#16, mem := [(0x23FE, 0xEE#8), (0x23FF, 0xEE#8)] }
        [0xC7#8]
        (fun t => (t.sp, t.mem.read 0x23FE, t.mem.read 0x23FF, t.pc, t.flags)) =
      some (0x23FE#16, 0x00#8, 0x00#8, 0x0000#16, flags 0 0 0 0 0) := by decide

theorem test_pchl_XC48 :
    after { base with regs := { base.regs with h := 0x41#8, l := 0x3E#8 } }
        [0xE9#8]
        (fun t => (t.pc, t.flags)) =
      some (0x413E#16, flags 0 0 0 0 0) := by decide

theorem test_pchl_XC49 :
    after { endingAt 0x4000 with regs := { base.regs with h := 0x41#8, l := 0x3E#8 } }
        [0xE9#8]
        (fun t => (t.pc, t.runState, t.flags)) =
      some (0x413E#16, .halt, flags 0 0 0 0 0) := by decide

theorem test_hlt_ER1 :
    after { base with regs := { base.regs with a := 0x11#8 }, flags := flags 1 0 0 0 0 }
        [0x76#8]
        (fun t => (t.runState, t.err, t.pc)) =
      some (.error, unhandled 0x76#8 0x0100#16, 0x0100#16) := by decide

theorem test_outPort_ER3 :
    after { base with regs := { base.regs with a := 0x11#8 }, flags := flags 1 0 0 0 0 }
        [0xD3#8, 0x01#8]
        (fun t => (t.runState, t.err, t.pc)) =
      some (.error, unhandled 0xD3#8 0x0100#16, 0x0100#16) := by decide

theorem test_ei_ER5 :
    after { base with regs := { base.regs with a := 0x11#8 }, flags := flags 1 0 0 0 0 }
        [0xFB#8]
        (fun t => (t.runState, t.err, t.pc)) =
      some (.error, unhandled 0xFB#8 0x0100#16, 0x0100#16) := by decide

theorem test_undoc28_ER10 :
    after base
        [0x28#8]
        (fun t => (t.runState, t.err, t.pc)) =
      some (.error, unhandled 0x28#8 0x0100#16, 0x0100#16) := by decide

theorem test_undocCB_ER13 :
    after base
        [0xCB#8]
        (fun t => (t.runState, t.err, t.pc)) =
      some (.error, unhandled 0xCB#8 0x0100#16, 0x0100#16) := by decide

theorem test_undocFD_ER17 :
    after base
        [0xFD#8]
        (fun t => (t.runState, t.err, t.pc)) =
      some (.error, unhandled 0xFD#8 0x0100#16, 0x0100#16) := by decide

theorem test_inPort_ER18 :
    after { base with pc := 0xFFFF#16 }
        [0xDB#8]
        (fun t => (t.runState, t.err, t.pc)) =
      some (.error, unhandled 0xDB#8 0xFFFF#16, 0xFFFF#16) := by decide

theorem test_mviA_ER19 :
    after documented
        [0x3E#8, 0x05#8]
        (fun t => (t.runState, t.err, t.pc)) =
      some (.error, unhandled 0x3E#8 0x0100#16, 0x0100#16) := by decide

theorem test_hlt_ER23 :
    after (endingAt 0x0101)
        [0x76#8]
        (fun t => (t.runState, t.err, t.pc)) =
      some (.error, unhandled 0x76#8 0x0100#16, 0x0100#16) := by decide


/-! ## Fetching one instruction, and reset -/

/-- The host's numbering: `C3 34 12` as 0x1234C3; a row with one byte of the three leaves zeros above (R56, R100). -/
theorem test_decodeTableWord :
    decodeTableWord 24 0x1234C3 = some (.jmp 0x1234#16) ∧ decodeTableWord 8 0xC3 = some (.jmp 0x0000#16) ∧
      decodeTableWord 8 0x76 = some .hlt := by decide

/-- From reset, the placed instruction is the very next one that runs. -/
theorem test_withFetchWord_runs :
    view (step (State.reset.withFetchWord 16 0x423E)) (fun t => (t.regs.a, t.pc)) = some (0x42#8, 0x0002#16) := by
  decide

/-- With nothing loaded the core halts at once, and the reset of an empty program is `State.reset` (R42, R370). -/
theorem test_boot_of_nothing_is_reset :
    view (boot Config.memSize Config.handlers [] []
        { regs := State.reset.regs, sp := Config.resetSp, flags := State.reset.flags }) id = some State.reset ∧
      view (step State.reset) id = none := by decide

/-- A loaded program starts running at address 0 (R370, R373). -/
theorem test_boot_runs_the_image :
    view (boot 16 .full [0x3E#8, 0x01#8] [(5, 0x77#8)]
        { regs := State.reset.regs, sp := 0x1234#16, flags := State.reset.flags })
        (fun t => (t.runState, t.pc, t.mem, t.sp)) =
      some (.running, 0x0000#16, [(0, 0x3E#8), (1, 0x01#8), (5, 0x77#8)], 0x1234#16) := by decide

/-! ## Witnesses: a state and operands that meet the hypotheses of each statement, clause by clause -/

theorem test_witness_EncodeOfDecode :
    decode [0xC3#8, 0x34#8, 0x12#8, 0x99#8] = .ok (.jmp 0x1234#16, [0x99#8]) := rfl

theorem test_witness_DecodeRefuses :
    decode [] = .error .noBytes ∧ decode [0x3E#8] = .error (.missingOperand 0x3E#8) ∧
      decode [0xC3#8, 0x34#8] = .error (.missingOperand 0xC3#8) := ⟨rfl, rfl, rfl⟩

/-- In the middle of Memory, and at its last byte with a one-byte instruction. -/
theorem test_witness_StepRunsTheDecodedInstruction :
    (∃ s : State, s.runState = .running ∧ s.pc.toNat < s.cfg.memSize ∧
      decode (bytesAtPc s) = .ok (.jmp 0x1234#16, [])) ∧
      ∃ s : State, s.runState = .running ∧ s.pc.toNat + 1 = s.cfg.memSize ∧
        decode (bytesAtPc s) = .ok (.cma, []) :=
  ⟨⟨{ base with mem := [(0x0100, 0xC3#8), (0x0101, 0x34#8), (0x0102, 0x12#8)] }, rfl, by decide, rfl⟩,
    ⟨{ base with pc := 0xFFFF#16, mem := [(0xFFFF, 0x2F#8)] }, rfl, by decide, rfl⟩⟩

/-- IN at the last byte of Memory (vector ER18), and a class X byte in the documented set (ER22). -/
theorem test_witness_UnhandledOpcodeIsFatal :
    (∃ s : State, s.runState = .running ∧ s.pc.toNat + 1 = s.cfg.memSize ∧
      handled s.cfg.handlers (s.mem.read s.pc.toNat) = false ∧ s.mem.read s.pc.toNat = 0xDB#8) ∧
      ∃ s : State, s.runState = .running ∧ s.pc.toNat < s.cfg.memSize ∧ s.cfg.handlers = .documented ∧
        handled s.cfg.handlers (s.mem.read s.pc.toNat) = false ∧ s.mem.read s.pc.toNat = 0xC4#8 :=
  ⟨⟨{ base with pc := 0xFFFF#16, mem := [(0xFFFF, 0xDB#8)] }, by decide⟩,
    ⟨{ documented with pc := 0xFFFF#16, mem := [(0xFFFF, 0xC4#8)] }, by decide⟩⟩

/-- The hypotheses of `OperandFetchTraps` for the opcode `op` with `len` operand bytes, at this state. -/
abbrev FetchesPastTheEnd (op : Byte) (len : Nat) (s : State) : Prop :=
  s.runState = .running ∧ handled s.cfg.handlers op = true ∧ s.pc.toNat < s.cfg.memSize ∧
    s.mem.read s.pc.toNat = op ∧ s.cfg.memSize ≤ s.pc.toNat + len

/-- The opcode at this address, with Memory ending at 0x10000. -/
def opcodeAt (op : Byte) (pc : Word) : State := { base with pc := pc, mem := [(pc.toNat, op)] }

/-- Every opcode with one operand byte, at the last byte of Memory; the statements of MVI and of the immediate
accumulator instructions name these. -/
theorem test_witness_OperandFetchTraps_one :
    ∀ op ∈ oneOperandBytes, FetchesPastTheEnd op 1 (opcodeAt op 0xFFFF#16) := by decide

/-- Every opcode with two operand bytes, at the last byte of Memory and at the one before: LXI, the jumps and calls, LDA,
STA, LHLD and SHLD name these. -/
theorem test_witness_OperandFetchTraps_two :
    ∀ op ∈ twoOperandBytes,
      FetchesPastTheEnd op 2 (opcodeAt op 0xFFFF#16) ∧ FetchesPastTheEnd op 2 (opcodeAt op 0xFFFE#16) := by decide

/-- The same hypotheses in the form of the statement over every opcode. -/
theorem test_witness_OperandFetchOutOfBoundsIsFatal :
    FetchesPastTheEnd 0x3E#8 (operandLength 0x3E#8) (opcodeAt 0x3E#8 0xFFFF#16) ∧
      FetchesPastTheEnd 0xC2#8 (operandLength 0xC2#8) (opcodeAt 0xC2#8 0xFFFE#16) := by decide

theorem test_witness_TerminalStatesHaveNoStep :
    State.reset.runState = .halt ∧ { base with runState := .error }.runState = .error := ⟨rfl, rfl⟩

/-- A running state that meets the invariant, at the first and at the last address of the program. -/
theorem test_witness_RunningCoreTakesAStep :
    (base.Inv ∧ base.runState = .running) ∧
      { base with pc := 0xFFFF#16 }.Inv ∧ { base with pc := 0xFFFF#16 }.runState = .running :=
  ⟨⟨⟨⟨by decide, by decide, by decide⟩, by decide, rfl⟩, rfl⟩,
    ⟨⟨by decide, by decide, by decide⟩, by decide, rfl⟩, rfl⟩

/-- The invariant holds and the step answers a next state (a NOP). -/
theorem test_witness_StepKeepsTheInvariant : base.Inv ∧ ∃ t, step base = .next t :=
  ⟨⟨⟨by decide, by decide, by decide⟩, by decide, rfl⟩, _, rfl⟩

/-- The smallest and the largest Memory, with an image that fills it or none; and each way to be refused. -/
theorem test_witness_BootLeavesTheResetState :
    (1 ≤ 1 ∧ 1 ≤ 65536 ∧ ([0x00#8] : List Byte).length ≤ 1) ∧
      (1 ≤ 65536 ∧ 65536 ≤ 65536 ∧ ([] : List Byte).length ≤ 65536) ∧
      (view (boot 1 .full [0x00#8] [] { regs := base.regs, sp := base.sp, flags := base.flags })
        (fun t => t.runState) = some .running) ∧
      (∀ c ∈ [(0, ([] : List Byte)), (65537, []), (1, [0x00#8, 0x00#8])],
        (c.1 = 0 ∨ 65536 < c.1 ∨ c.1 < c.2.length) ∧
          view (boot c.1 .full c.2 [] { regs := base.regs, sp := base.sp, flags := base.flags }) id = none) := by
  decide

/-- PUSH B with SP = 0: as a step and as an instruction. -/
theorem test_witness_ErrorsArePrecise :
    (∃ t, step { base with sp := 0x0000#16, mem := [(0x0100, 0xC5#8)] } = .next t ∧ t.runState = .error) ∧
      { base with sp := 0x0000#16 }.runState ≠ .error ∧
      ∃ t, exec .pushB { base with sp := 0x0000#16 } = .next t ∧ t.runState = .error :=
  ⟨⟨_, rfl, rfl⟩, by decide, ⟨_, rfl, rfl⟩⟩

/-- A push with SP 0 and 1; a pop with SP = 0xFFFF and LHLD at 0xFFFF; and the nearest values that do not raise. -/
theorem test_witness_OutOfBoundsCasesAreTheseOnly :
    (base.cfg.memSize = 65536 ∧ base.runState ≠ .error ∧
      handled base.cfg.handlers Instr.pushB.opcode = true ∧ handled base.cfg.handlers Instr.popB.opcode = true ∧
      handled base.cfg.handlers (Instr.lhld 0xFFFF#16).opcode = true) ∧
      ((0x0000#16 : Word).toNat < 2 ∧ (0x0001#16 : Word).toNat < 2 ∧ ¬ (0x0002#16 : Word).toNat < 2) ∧
      ¬ (0xFFFE#16 : Word) = 0xFFFF#16 := by decide

/-- Which instructions push, pop the top or straddle it in which states. -/
theorem test_witness_OutOfBoundsCasesAreTheseOnly_tables :
    pushes .pushB base = true ∧ pushes (.cnz 0x0000#16) base = true ∧
      pushes (.cnz 0x0000#16) { base with flags := flags 1 0 0 0 0 } = false ∧ popsTop .popB base = true ∧
      pushes .popB base = false ∧ popsTop .nop base = false ∧ straddlesTop (.lhld 0xFFFF#16) = true ∧
      straddlesTop (.lhld 0xFFFE#16) = false := ⟨rfl, rfl, rfl, rfl, rfl, rfl, rfl, rfl⟩

theorem test_witness_ClassXIsFatalInTheDocumentedSet :
    Instr.inxB.opClass = .x ∧ documented.cfg.handlers = .documented := ⟨rfl, rfl⟩

/-- For the five frame statements: an instruction that answers a next state, a store, and one that raises. -/
theorem test_witness_Frames :
    (∃ t, exec .addB base = .next t) ∧ (∃ t, exec .movMB base = .next t) ∧
      (∃ t, exec .popPsw { base with sp := 0xFFFF#16 } = .next t) ∧ (0x0001 : Int) ∉ storedAt .movMB base :=
  ⟨⟨_, rfl⟩, ⟨_, rfl⟩, ⟨_, rfl⟩, by decide⟩

/-- An instruction that answers a next state without an error and writes no flag, no register and not SP. -/
theorem test_witness_Frames_premises :
    (∃ t, exec .nop base = .next t ∧ t.runState ≠ .error) ∧ flagsWritten .nop = flags 0 0 0 0 0 ∧ destRegs .nop = [] ∧
      writesSp .nop = false := ⟨⟨_, rfl, by decide⟩, rfl, rfl, rfl⟩

/-- `AC` apart, an instruction other than PUSH PSW and DAA that answers a next state. -/
theorem test_witness_AuxiliaryCarry :
    Instr.adcB ≠ .pushPsw ∧ Instr.adcB ≠ .daa ∧ ∃ t, exec .adcB base = .next t :=
  ⟨by decide, by decide, ⟨_, rfl⟩⟩

/-- HL at the last byte of a Memory of 256 bytes and one past it: MOV, ADD and the other accumulator instructions, MVI M,
INR M and DCR M have these two clauses. -/
theorem test_witness_MemoryOperand :
    hl { small with regs := { small.regs with h := 0x00#8, l := 0xFF#8 } } < small.cfg.memSize ∧
      small.cfg.memSize ≤ hl { small with regs := { small.regs with h := 0x01#8, l := 0x00#8 } } ∧
      small.cfg.handlers = .full := by decide

/-- The operand of an accumulator instruction: a value in each form, and none where HL is out of bounds. -/
theorem test_witness_AccumulatorRule :
    operand small (.reg .b) = some 0x00#8 ∧ operand small (.imm 0x5A#8) = some 0x5A#8 ∧
      operand { small with regs := { small.regs with h := 0x00#8, l := 0xFF#8 } } .mem = some 0x00#8 ∧
      operand { small with regs := { small.regs with h := 0x01#8, l := 0x00#8 } } .mem = none := by decide

/-- LDAX and STAX: BC and DE at the last byte of Memory and one past it. -/
theorem test_witness_LdaxAndStaxUseTheNamedPair :
    ∀ p ∈ [Pair.bc, .de],
      (({ small with regs := { small.regs with b := 0x00#8, c := 0xFF#8, d := 0x00#8, e := 0xFF#8 } } : State).pair
          p).toNat < small.cfg.memSize ∧
        small.cfg.memSize ≤
          (({ small with regs := { small.regs with b := 0x01#8, c := 0x00#8, d := 0x01#8, e := 0x00#8 } } : State).pair
            p).toNat := by decide

/-- The three clauses of a push, a call or a restart: SP = 2 and `MEM_SIZE`; 0 and 1; `MEM_SIZE + 1`. -/
theorem test_witness_PushRule :
    (2 ≤ (0x0002#16 : Word).toNat ∧ (0x0002#16 : Word).toNat ≤ small.cfg.memSize) ∧
      (2 ≤ (0x0100#16 : Word).toNat ∧ (0x0100#16 : Word).toNat ≤ small.cfg.memSize) ∧
      ((0x0000#16 : Word).toNat < 2 ∧ (0x0000#16 : Word).toNat ≤ small.cfg.memSize) ∧
      ((0x0001#16 : Word).toNat < 2 ∧ (0x0001#16 : Word).toNat ≤ small.cfg.memSize) ∧
      small.cfg.memSize < (0x0101#16 : Word).toNat ∧ small.cfg.handlers = .full := by decide

/-- The three clauses of a pop, a return or XTHL: SP two below `MEM_SIZE`, one below, and at it. -/
theorem test_witness_PopRule :
    (0x00FE#16 : Word).toNat + 1 < small.cfg.memSize ∧ (0x00FF#16 : Word).toNat + 1 = small.cfg.memSize ∧
      small.cfg.memSize ≤ (0x0100#16 : Word).toNat ∧ small.cfg.handlers = .full := by decide

/-- SP at both ends of the range. -/
theorem test_witness_PopAfterPushMovesThePair :
    (2 ≤ (0x0002#16 : Word).toNat ∧ (0x0002#16 : Word).toNat ≤ small.cfg.memSize) ∧
      (2 ≤ (0x0100#16 : Word).toNat ∧ (0x0100#16 : Word).toNat ≤ small.cfg.memSize) := by decide

/-- Conditional calls and returns: for every condition, flags under which it holds and flags under which it does not. -/
theorem test_witness_Conditions :
    ∀ f ∈ callIfForms 0x1234#16 ++ returnIfForms,
      (f.2.2 (flags 0 0 0 0 0) = true ∧ f.2.2 (flags 1 1 1 1 1) = false) ∨
        (f.2.2 (flags 1 1 1 1 1) = true ∧ f.2.2 (flags 0 0 0 0 0) = false) := by decide

/-- A conditional call and return that are taken, together with each clause on SP, in the default handler set. -/
theorem test_witness_TakenCallAndReturn :
    (∀ sp : Word,
      ({ small with sp := sp, flags := flags 1 0 0 0 0 } : State).cfg.handlers = .full ∧
        ({ small with sp := sp, flags := flags 1 0 0 0 0 } : State).flags.z = true) ∧
      (∃ f ∈ callIfForms 0x1234#16, f.1 = .cz 0x1234#16 ∧ f.2.2 (flags 1 0 0 0 0) = true) ∧
      ∃ f ∈ returnIfForms, f.1 = .rz ∧ f.2.2 (flags 1 0 0 0 0) = true :=
  ⟨fun _ => ⟨rfl, rfl⟩, ⟨_, .tail _ (.head _), rfl, rfl⟩, ⟨_, .tail _ (.head _), rfl, rfl⟩⟩

/-- LDA and STA: the last address and the one past it. -/
theorem test_witness_LdaAndStaUseTheDirectAddress :
    256 * (0x00#8 : Byte).toNat + (0xFF#8 : Byte).toNat < small.cfg.memSize ∧
      small.cfg.memSize ≤ 256 * (0x01#8 : Byte).toNat + (0x00#8 : Byte).toNat ∧ small.cfg.handlers = .full := by decide

/-- LHLD and SHLD: two addresses in bounds, only the first, none. -/
theorem test_witness_LhldAndShldMoveTwoBytes :
    (0x00FE#16 : Word).toNat + 1 < small.cfg.memSize ∧ (0x00FF#16 : Word).toNat + 1 = small.cfg.memSize ∧
      small.cfg.memSize ≤ (0x0100#16 : Word).toNat ∧ small.cfg.handlers = .full := by decide

/-- The default handler set is the one hypothesis of the class X statements without memory operand; the five numbers of
DAA's statement are its pseudocode's for A = 0x9B (vector XA36). -/
theorem test_witness_DefaultHandlerSet :
    base.cfg.handlers = .full ∧
      ∃ lsb msb low high w : Nat,
        lsb = (0x9B#8 : Byte).toNat % 16 ∧ msb = (0x9B#8 : Byte).toNat / 16 ∧ low = 0x06 ∧ high = 0x60 ∧
          w = (0x9B#8 : Byte).toNat + (low + high) ∧ lsb > 9 ∧ msb ≥ 9 :=
  ⟨rfl, 0xB, 0x9, 0x06, 0x60, _, rfl, rfl, rfl, rfl, rfl, by decide, by decide⟩

end Sys2Proof.Tests
end

section
/-! PROOF. What a handler keeps, for every instruction. A handler's body is followed by a small rule for operations that
may raise (`Yields`): what it raises is justified, and the state it leaves keeps the frame the invariant speaks of
(`State.KeepsFrame`). One lemma per shared operation of Machine/ says so, `exec_framed` sorts the instructions by shape,
and `exec_cases` reads the result backwards. -/

namespace Sys2Proof.Machine

/-! ## What is raised and what is left -/

/-- Raising `r` in `s` is justified: an access out of bounds names an address outside Memory (R35, R342). -/
def Raise.Justified (s : State) : Raise → Prop
  | .unimplementedOpcode => True
  | .outOfBoundsAccess a => ¬ s.inBounds a

/-- What every handler's own writes leave of `s` (R39, R114): the configuration, `RS` and `ERR` are untouched, and Memory
stays well formed. -/
structure State.KeepsFrame (s t : State) : Prop where
  cfg : t.cfg = s.cfg
  runState : t.runState = s.runState
  err : t.err = s.err
  memoryOk : s.MemoryOk → t.MemoryOk

/-- An operation that may raise: what it raises is justified in `s`, and what it gives satisfies `P`. -/
def Yields {α : Type} (s : State) (x : Except Raise α) (P : α → Prop) : Prop :=
  match x with
  | .error r => r.Justified s
  | .ok a => P a

/-- The answer is the frame of a handler of `op` around a body that keeps the state's frame (R114). -/
def Framed (op : Byte) (s : State) (answer : Answer) : Prop :=
  ∃ body, answer = runHandler op s body ∧ Yields s body fun k => s.KeepsFrame k.state

/-! ## The rules of `KeepsFrame` -/

namespace State.KeepsFrame

variable {s t : State}

/-- Writes outside Memory: only the memory, the configuration, `RS` and `ERR` count. -/
theorem of_fields {u : State} (h : s.KeepsFrame t) (hmem : u.mem = t.mem) (hcfg : u.cfg = t.cfg)
    (hrun : u.runState = t.runState) (herr : u.err = t.err) : s.KeepsFrame u where
  cfg := hcfg.trans h.cfg
  runState := hrun.trans h.runState
  err := herr.trans h.err
  memoryOk hs := by
    rw [State.MemoryOk, hmem, hcfg]
    exact h.memoryOk hs

theorem refl (s : State) : s.KeepsFrame s := ⟨rfl, rfl, rfl, id⟩

theorem setReg (h : s.KeepsFrame t) (r : Reg) (v : Byte) : s.KeepsFrame (t.setReg r v) :=
  h.of_fields rfl rfl rfl rfl

theorem setAcc (h : s.KeepsFrame t) (v : Byte) (f : Flags) : s.KeepsFrame (t.setAcc v f) :=
  h.of_fields rfl rfl rfl rfl

theorem setFlags (h : s.KeepsFrame t) (f : Flags) : s.KeepsFrame (t.setFlags f) :=
  h.of_fields rfl rfl rfl rfl

theorem setPair (h : s.KeepsFrame t) (p : Pair) (v : Word) : s.KeepsFrame (t.setPair p v) :=
  h.of_fields (by simp) (by simp) (by simp) (by simp)

theorem setPsw (h : s.KeepsFrame t) (v : Word) : s.KeepsFrame (t.setPsw v) :=
  h.of_fields rfl rfl rfl rfl

theorem setSp (h : s.KeepsFrame t) (v : Word) : s.KeepsFrame { t with sp := v } :=
  h.of_fields rfl rfl rfl rfl

/-- A write in bounds keeps Memory in canonical form within `[0, MEM_SIZE)` (R50). -/
theorem writeMem (h : s.KeepsFrame t) {addr : Int} (v : Byte) (hb : s.inBounds addr) :
    s.KeepsFrame { t with mem := t.mem.write addr.toNat v } where
  cfg := h.cfg
  runState := h.runState
  err := h.err
  memoryOk hs := by
    obtain ⟨hvalid, hwf, hwithin⟩ := h.memoryOk hs
    have hlt : addr.toNat < t.cfg.memSize := by
      obtain ⟨h₀, h₁⟩ := hb
      rw [h.cfg]
      omega
    exact ⟨hvalid, Memory.wf_write _ v hwf, Memory.within_write v hwithin hlt⟩

end State.KeepsFrame

/-! ## The rules of `Yields` -/

theorem Yields.justified {α : Type} {s : State} {x : Except Raise α} {P : α → Prop} {r : Raise} (h : Yields s x P)
    (hx : x = .error r) : r.Justified s := by
  rw [hx] at h
  exact h

theorem Yields.map {α β : Type} {s : State} {x : Except Raise α} {f : α → β} {P : α → Prop} {Q : β → Prop}
    (h : Yields s x P) (hf : ∀ a, P a → Q (f a)) : Yields s (x.map f) Q := by
  cases x with
  | error r => exact h
  | ok a => exact hf a h

theorem memRead_yields (s : State) (addr : Int) : Yields s (memRead s addr) fun _ => True := by
  by_cases hb : s.inBounds addr
  · rw [memRead_ok hb]
    trivial
  · rw [memRead_raises hb]
    exact hb

theorem memRead16_yields (s : State) (addr : Int) : Yields s (memRead16 s addr) fun _ => True := by
  rcases memRead16_cases s addr with ⟨_, _, h⟩ | ⟨a, ha, h⟩ <;> rw [h]
  · trivial
  · exact ha

theorem memWrite_yields (s : State) (addr : Int) (v : Byte) : Yields s (memWrite s addr v) s.KeepsFrame := by
  by_cases hb : s.inBounds addr
  · rw [memWrite_ok v hb]
    exact (State.KeepsFrame.refl s).writeMem v hb
  · rw [memWrite_raises v hb]
    exact hb

theorem memWrite16_yields (s : State) (addr : Int) (v : Word) : Yields s (memWrite16 s addr v) s.KeepsFrame := by
  rcases memWrite16_cases s addr v with ⟨h₀, h₁, h⟩ | ⟨a, ha, h⟩ <;> rw [h]
  · exact ((State.KeepsFrame.refl s).writeMem _ h₀).writeMem _ h₁
  · exact ha

theorem push16_yields (s : State) (v : Word) : Yields s (push16 s v) s.KeepsFrame := by
  rcases push16_cases s v with ⟨h₁, h₂, h⟩ | ⟨hb, h⟩ | ⟨_, hb, h⟩ <;> rw [h]
  · exact (((State.KeepsFrame.refl s).writeMem _ h₁).writeMem _ h₂).setSp _
  · exact hb
  · exact hb

theorem pop16_yields (s : State) : Yields s (pop16 s) fun x => s.KeepsFrame x.2 := by
  rcases pop16_cases s with ⟨v, h⟩ | ⟨a, ha, h⟩ <;> rw [h]
  · exact (State.KeepsFrame.refl s).setSp _
  · exact ha

theorem Src.value_yields (s : State) (src : Src) : Yields s (src.value s) fun _ => True := by
  rcases Src.value_cases s src with ⟨v, h⟩ | ⟨hb, h⟩ <;> rw [h]
  · trivial
  · exact hb

/-! ## One lemma per shared operation -/

section SharedOperations

open State.KeepsFrame (refl)

section Bodies

variable {op : Byte} {s : State}

theorem framed_stay {t : State} (h : s.KeepsFrame t) : Framed op s (runHandler op s (.ok (.stay t))) := ⟨_, rfl, h⟩

theorem framed_goto (target : Word) : Framed op s (runHandler op s (.ok (.goto s target))) := ⟨_, rfl, refl s⟩

theorem framed_of_yields {body : Except Raise Handled} (h : Yields s body fun k => s.KeepsFrame k.state) :
    Framed op s (runHandler op s body) := ⟨body, rfl, h⟩

theorem framed_map_stay {α : Type} {x : Except Raise α} {f : α → State} {P : α → Prop} (h : Yields s x P)
    (hf : ∀ a, P a → s.KeepsFrame (f a)) : Framed op s (runHandler op s (x.map fun a => .stay (f a))) :=
  framed_of_yields (h.map hf)

end Bodies

variable (op : Byte) (s : State)

/-- A byte of class P or U answers what its missing handler answers (R96, R341). -/
theorem noHandler_framed (h : opClass op = .p ∨ opClass op = .u) : Framed op s (noHandler op s) :=
  ⟨.ok (.stay s), (runHandler_unhandled _ (not_handled_of_classPU h)).symm, refl s⟩

theorem movRegReg_framed (dst src : Reg) : Framed op s (movRegReg op dst src s) :=
  framed_stay ((refl s).setReg _ _)

theorem movRegMem_framed (dst : Reg) : Framed op s (movRegMem op dst s) :=
  framed_map_stay (memRead_yields s _) fun _ _ => (refl s).setReg _ _

theorem movMemReg_framed (r : Reg) : Framed op s (movMemReg op r s) :=
  framed_map_stay (memWrite_yields s _ _) fun _ ht => ht

theorem ldax_framed (p : Pair) : Framed op s (ldax op p s) :=
  framed_map_stay (memRead_yields s _) fun _ _ => (refl s).setReg _ _

theorem stax_framed (p : Pair) : Framed op s (stax op p s) :=
  framed_map_stay (memWrite_yields s _ _) fun _ ht => ht

theorem lxi_framed (p : Pair) (d16 : Word) : Framed op s (lxi op p d16 s) :=
  framed_stay ((refl s).setPair _ _)

theorem accumulate_framed (src : Src) (f : Byte → AluOut) : Framed op s (accumulate op src f s) :=
  framed_map_stay (Src.value_yields s src) fun _ _ => (refl s).setAcc _ _

theorem addSrc_framed (src : Src) : Framed op s (addSrc op src s) := accumulate_framed op s src _

theorem adcSrc_framed (src : Src) : Framed op s (adcSrc op src s) := accumulate_framed op s src _

theorem subSrc_framed (src : Src) : Framed op s (subSrc op src s) := accumulate_framed op s src _

theorem sbbSrc_framed (src : Src) : Framed op s (sbbSrc op src s) := accumulate_framed op s src _

theorem anaSrc_framed (src : Src) : Framed op s (anaSrc op src s) := accumulate_framed op s src _

theorem xraSrc_framed (src : Src) : Framed op s (xraSrc op src s) := accumulate_framed op s src _

theorem oraSrc_framed (src : Src) : Framed op s (oraSrc op src s) := accumulate_framed op s src _

theorem cmpSrc_framed (src : Src) : Framed op s (cmpSrc op src s) :=
  framed_map_stay (Src.value_yields s src) fun _ _ => (refl s).setFlags _

theorem rotateAcc_framed (o : Byte × Bool) : Framed op s (rotateAcc op o s) :=
  framed_stay ((refl s).setAcc _ _)

theorem complementAcc_framed : Framed op s (complementAcc op s) :=
  framed_stay ((refl s).setReg _ _)

theorem noOperation_framed : Framed op s (noOperation op s) := framed_stay (refl s)

theorem pushWord_framed (v : Word) : Framed op s (pushWord op v s) :=
  framed_map_stay (push16_yields s v) fun _ ht => ht

theorem popPair_framed (p : Pair) : Framed op s (popPair op p s) :=
  framed_map_stay (pop16_yields s) fun _ ht => ht.setPair _ _

theorem popPsw_framed : Framed op s (popPsw op s) :=
  framed_map_stay (pop16_yields s) fun _ ht => ht.setPsw _

theorem jumpTo_framed (a16 : Word) : Framed op s (jumpTo op a16 s) := framed_goto a16

theorem jumpIf_framed (cond : Cond) (a16 : Word) : Framed op s (jumpIf op cond a16 s) := by
  unfold jumpIf
  split
  · exact framed_goto a16
  · exact framed_stay (refl s)

theorem jumpPair_framed : Framed op s (jumpPair op s) := framed_goto _

theorem callTo_framed (target : Word) : Framed op s (callTo op target s) :=
  framed_of_yields ((push16_yields s _).map fun _ ht => ht)

theorem returnFrom_framed : Framed op s (returnFrom op s) :=
  framed_of_yields ((pop16_yields s).map fun _ ht => ht)

theorem callIf_framed (cond : Cond) (a16 : Word) : Framed op s (callIf op cond a16 s) := by
  unfold callIf
  split
  · exact callTo_framed op s a16
  · exact framed_stay (refl s)

theorem returnIf_framed (cond : Cond) : Framed op s (returnIf op cond s) := by
  unfold returnIf
  split
  · exact returnFrom_framed op s
  · exact framed_stay (refl s)

theorem mviReg_framed (r : Reg) (d8 : Byte) : Framed op s (mviReg op r d8 s) :=
  framed_stay ((refl s).setReg _ _)

theorem mviMem_framed (d8 : Byte) : Framed op s (mviMem op d8 s) :=
  framed_map_stay (memWrite_yields s _ _) fun _ ht => ht

theorem loadDirect_framed (a16 : Word) : Framed op s (loadDirect op a16 s) :=
  framed_map_stay (memRead_yields s _) fun _ _ => (refl s).setReg _ _

theorem storeDirect_framed (a16 : Word) : Framed op s (storeDirect op a16 s) :=
  framed_map_stay (memWrite_yields s _ _) fun _ ht => ht

theorem loadPairDirect_framed (a16 : Word) : Framed op s (loadPairDirect op a16 s) :=
  framed_map_stay (memRead16_yields s _) fun _ _ => (refl s).setPair _ _

theorem storePairDirect_framed (a16 : Word) : Framed op s (storePairDirect op a16 s) :=
  framed_map_stay (memWrite16_yields s _ _) fun _ ht => ht

theorem exchangePairs_framed : Framed op s (exchangePairs op s) :=
  framed_stay (((refl s).setPair _ _).setPair _ _)

theorem exchangeTop_framed : Framed op s (exchangeTop op s) := by
  refine framed_of_yields ?_
  split
  · rename_i hread
    exact (memRead16_yields s s.sp.toNat).justified hread
  · exact (memWrite16_yields s _ _).map fun _ ht => ht.setPair .hl _

theorem inrReg_framed (r : Reg) : Framed op s (inrReg op r s) :=
  framed_stay (((refl s).setReg _ _).setFlags _)

theorem inrMem_framed : Framed op s (inrMem op s) := by
  refine framed_of_yields ?_
  split
  · rename_i hread
    exact (memRead_yields s s.addrM).justified hread
  · exact (memWrite_yields s _ _).map fun _ ht => ht.setFlags _

theorem dcrReg_framed (r : Reg) : Framed op s (dcrReg op r s) :=
  framed_stay (((refl s).setReg _ _).setFlags _)

theorem dcrMem_framed : Framed op s (dcrMem op s) := by
  refine framed_of_yields ?_
  split
  · rename_i hread
    exact (memRead_yields s s.addrM).justified hread
  · exact (memWrite_yields s _ _).map fun _ ht => ht.setFlags _

theorem inxPair_framed (p : Pair) : Framed op s (inxPair op p s) :=
  framed_stay ((refl s).setPair _ _)

theorem dcxPair_framed (p : Pair) : Framed op s (dcxPair op p s) :=
  framed_stay ((refl s).setPair _ _)

theorem dadPair_framed (p : Pair) : Framed op s (dadPair op p s) :=
  framed_stay (((refl s).setPair _ _).setFlags _)

theorem decimalAdjust_framed : Framed op s (decimalAdjust op s) :=
  framed_stay ((refl s).setAcc _ _)

theorem setCarry_framed : Framed op s (setCarry op s) := framed_stay ((refl s).setFlags _)

theorem complementCarry_framed : Framed op s (complementCarry op s) :=
  framed_stay ((refl s).setFlags _)

theorem loadSp_framed : Framed op s (loadSp op s) := framed_stay ((refl s).setPair _ _)

end SharedOperations

/-! ## Every instruction -/

/-- Every instruction is the frame of a handler of its opcode around a body that keeps the state's frame. -/
theorem exec_framed (i : Instr) (s : State) : Framed i.opcode s (exec i s) := by
  unfold exec
  cases i with
  | movBB | movBC | movBD | movBE | movBH | movBL | movBA | movCB | movCC | movCD | movCE | movCH | movCL
  | movCA | movDB | movDC | movDD | movDE | movDH | movDL | movDA | movEB | movEC | movED | movEE | movEH
  | movEL | movEA | movHB | movHC | movHD | movHE | movHH | movHL | movHA | movLB | movLC | movLD | movLE
  | movLH | movLL | movLA | movAB | movAC | movAD | movAE | movAH | movAL | movAA => exact movRegReg_framed ..
  | movBM | movCM | movDM | movEM | movHM | movLM | movAM => exact movRegMem_framed ..
  | movMB | movMC | movMD | movME | movMH | movML | movMA => exact movMemReg_framed ..
  | ldaxB | ldaxD => exact ldax_framed ..
  | staxB | staxD => exact stax_framed ..
  | lxiB | lxiD | lxiH | lxiSp => exact lxi_framed ..
  | addB | addC | addD | addE | addH | addL | addA | addM | adi => exact addSrc_framed ..
  | adcB | adcC | adcD | adcE | adcH | adcL | adcA | adcM | aci => exact adcSrc_framed ..
  | subB | subC | subD | subE | subH | subL | subA | subM | sui => exact subSrc_framed ..
  | sbbB | sbbC | sbbD | sbbE | sbbH | sbbL | sbbA | sbbM | sbi => exact sbbSrc_framed ..
  | anaB | anaC | anaD | anaE | anaH | anaL | anaA | anaM | ani => exact anaSrc_framed ..
  | xraB | xraC | xraD | xraE | xraH | xraL | xraA | xraM | xri => exact xraSrc_framed ..
  | oraB | oraC | oraD | oraE | oraH | oraL | oraA | oraM | ori => exact oraSrc_framed ..
  | cmpB | cmpC | cmpD | cmpE | cmpH | cmpL | cmpA | cmpM | cpi => exact cmpSrc_framed ..
  | rlc | rrc | ral | rar => exact rotateAcc_framed ..
  | cma => exact complementAcc_framed ..
  | nop => exact noOperation_framed ..
  | pushB | pushD | pushH | pushPsw => exact pushWord_framed ..
  | popB | popD | popH => exact popPair_framed ..
  | popPsw => exact popPsw_framed ..
  | jmp => exact jumpTo_framed ..
  | jnz | jz | jnc | jc | jpo | jpe | jp | jm => exact jumpIf_framed ..
  | call | rst0 | rst1 | rst2 | rst3 | rst4 | rst5 | rst6 | rst7 => exact callTo_framed ..
  | ret => exact returnFrom_framed ..
  | mviB | mviC | mviD | mviE | mviH | mviL | mviA => exact mviReg_framed ..
  | mviM => exact mviMem_framed ..
  | lda => exact loadDirect_framed ..
  | sta => exact storeDirect_framed ..
  | lhld => exact loadPairDirect_framed ..
  | shld => exact storePairDirect_framed ..
  | xchg => exact exchangePairs_framed ..
  | xthl => exact exchangeTop_framed ..
  | inrB | inrC | inrD | inrE | inrH | inrL | inrA => exact inrReg_framed ..
  | inrM => exact inrMem_framed ..
  | dcrB | dcrC | dcrD | dcrE | dcrH | dcrL | dcrA => exact dcrReg_framed ..
  | dcrM => exact dcrMem_framed ..
  | inxB | inxD | inxH | inxSp => exact inxPair_framed ..
  | dcxB | dcxD | dcxH | dcxSp => exact dcxPair_framed ..
  | dadB | dadD | dadH | dadSp => exact dadPair_framed ..
  | daa => exact decimalAdjust_framed ..
  | stc => exact setCarry_framed ..
  | cmc => exact complementCarry_framed ..
  | sphl => exact loadSp_framed ..
  | cnz | cz | cnc | cc | cpo | cpe | cp | cm => exact callIf_framed ..
  | rnz | rz | rnc | rc | rpo | rpe | rp | rm => exact returnIf_framed ..
  | pchl => exact jumpPair_framed ..
  | hlt | inPort | outPort | di | ei => exact noHandler_framed _ s (.inl rfl)
  | undoc08 | undoc10 | undoc18 | undoc20 | undoc28 | undoc30 | undoc38 | undocCB | undocD9 | undocDD
  | undocED | undocFD => exact noHandler_framed _ s (.inr rfl)

/-- What an instruction that answers a next state has done: it raised, with a reason, or its handler wrote what a handler
may write and PC advanced (R114 to R116, R345). -/
theorem exec_cases {i : Instr} {s t : State} (h : exec i s = .next t) :
    (∃ r, r.Justified s ∧ t = s.raise i.opcode r) ∨ ∃ u npc, s.KeepsFrame u ∧ t = u.advance npc := by
  obtain ⟨body, hbody, hyields⟩ := exec_framed i s
  rw [hbody] at h
  rcases runHandler_cases h with ⟨_, ht⟩ | ⟨_, r, rfl, ht⟩ | ⟨_, k, npc, rfl, ht⟩
  · exact .inl ⟨.unimplementedOpcode, trivial, ht⟩
  · exact .inl ⟨r, hyields, ht⟩
  · exact .inr ⟨k.state, npc, hyields, ht⟩

/-- What DECODE raises is justified (R112). -/
theorem fetch_raised_justified {s : State} {op : Byte} {r : Raise} (h : fetch s = .raised op r) : r.Justified s := by
  rcases fetch_cases s with ⟨_, hf⟩ | ⟨_, _, hf⟩ | ⟨_, _, a, ha, hf⟩ | ⟨_, _, b1, b2, _, hf⟩ <;> rw [hf] at h <;> cases h
  · trivial
  · exact ha

end Sys2Proof.Machine
end

section
/-! PROOF. The invariant of the machine: both ways a step can end keep it. -/

namespace Sys2Proof.Machine

/-- The loaded program ends within the 16-bit address space (R7, R8, I11). -/
theorem State.MemoryOk.programEnd_le {s : State} (h : s.MemoryOk) : s.cfg.programEnd ≤ 65536 := by
  obtain ⟨hvalid, -, -⟩ := h
  simp only [RunConfig.valid, Bool.and_eq_true, decide_eq_true_eq] at hvalid
  omega

theorem State.runOk_of_running {s : State} (h : s.runState = .running) :
    s.RunOk ↔ s.pc.toNat < s.cfg.programEnd ∧ s.err = none := by
  rw [State.RunOk, h]

theorem State.runOk_of_halt {s : State} (h : s.runState = .halt) : s.RunOk ↔ s.err = none := by
  rw [State.RunOk, h]

/-- `raise` leaves `RS` and `ERR` in agreement, whatever they were (R345). -/
theorem State.raise_runOk {s : State} (op : Byte) {r : Raise} (h : r.Justified s) : (s.raise op r).RunOk := by
  refine ⟨_, rfl, rfl, ?_⟩
  cases r with
  | unimplementedOpcode => trivial
  | outOfBoundsAccess a =>
    have ha : ¬ (0 ≤ a ∧ a < (s.cfg.memSize : Int)) := h
    show a < 0 ∨ (s.cfg.memSize : Int) ≤ a
    omega

/-- ADVANCE leaves a core that halts, or one that is about to fetch from the program: below `PROGRAM_END` the integer next
PC fits in 16 bits, so PC holds it unreduced (R115, R116). -/
theorem State.advance_runOk {t : State} (hmem : t.MemoryOk) (hrun : t.runState = .running) (herr : t.err = none)
    (npc : Nat) : (t.advance npc).RunOk := by
  by_cases hend : t.cfg.programEnd ≤ npc
  · have hhalt : (t.advance npc).runState = .halt := by simp [hend]
    exact (State.runOk_of_halt hhalt).2 herr
  · have hstill : (t.advance npc).runState = .running := by simp [hend, hrun]
    have hpc : (t.advance npc).pc.toNat = npc := by
      have := hmem.programEnd_le
      simp only [State.advance_pc, BitVec.toNat_ofNat]
      omega
    refine (State.runOk_of_running hstill).2 ⟨?_, herr⟩
    rw [hpc, State.advance_cfg]
    omega

theorem State.Inv.raise {s : State} (h : s.Inv) (op : Byte) {r : Raise} (hr : r.Justified s) : (s.raise op r).Inv := by
  obtain ⟨hmem, -⟩ := h
  exact ⟨hmem, State.raise_runOk op hr⟩

theorem State.Inv.advance {s t : State} (h : s.Inv) (hrun : s.runState = .running) (ht : s.KeepsFrame t) (npc : Nat) :
    (t.advance npc).Inv := by
  obtain ⟨hmem, hok⟩ := h
  obtain ⟨_, herr⟩ := (State.runOk_of_running hrun).1 hok
  have hmem' := ht.memoryOk hmem
  exact ⟨hmem', State.advance_runOk hmem' (ht.runState.trans hrun) (ht.err.trans herr) npc⟩

/-- Settles O15: a step of a running core raises in DECODE, raises in the handler, or advances over what the handler left,
and each of the three keeps the invariant. -/
theorem stepKeepsTheInvariant : Obligations.StepKeepsTheInvariant := by
  intro s t hinv hstep
  obtain ⟨hrun, ⟨op, r, hfetch, rfl⟩ | ⟨i, _, hexec⟩⟩ := step_cases hstep
  · exact hinv.raise op (fetch_raised_justified hfetch)
  · rcases exec_cases hexec with ⟨r, hr, rfl⟩ | ⟨u, npc, hu, rfl⟩
    · exact hinv.raise i.opcode hr
    · exact hinv.advance hrun hu npc

end Sys2Proof.Machine
end

section
/-! PROOF. The packed flag byte (R32, R33): its eight bits, and both round trips from them. -/

namespace Sys2Proof.Machine

open Spec

/-- The layout of `FLAGBYTE`, from bit 0 up: CY 1 P 0 AC 0 Z S (R32). -/
theorem Flags.pack_getLsbD (f : Flags) (k : Fin 8) :
    f.pack.getLsbD k = [f.cy, true, f.p, false, f.ac, false, f.z, f.s].get k := by
  obtain ⟨z, s, p, cy, ac⟩ := f
  revert z s p cy ac k
  decide

theorem Flags.pack_eq_flagByte (f : Flags) : f.pack = flagByte f := by
  have hbit (b : Bool) : b.toNat = bit b := by cases b <;> rfl
  simp only [Flags.pack, flagByte, hbit]

/-- Unpacking reads the five bits that packing has filled (R33). -/
theorem Flags.unpack_pack (f : Flags) : Flags.unpack f.pack = f := by
  have hbit := f.pack_getLsbD
  exact (Flags.mk.injEq ..).mpr ⟨hbit 6, hbit 7, hbit 2, hbit 0, hbit 4⟩

/-- Packing puts back the five bits that unpacking has read, and the three constants in the other bits (R33). -/
theorem Flags.pack_unpack (v : Byte) : (Flags.unpack v).pack = (v &&& 0xD5#8) ||| 0x02#8 := by
  apply BitVec.eq_of_getLsbD_eq
  intro k hk
  rw [Flags.pack_getLsbD _ ⟨k, hk⟩]
  interval_cases k <;> simp [Flags.unpack]

/-- Settles O9: the layout, and both round trips read off it. -/
theorem flagByteRoundTrips : Obligations.FlagByteRoundTrips :=
  ⟨fun f => ⟨f.pack_eq_flagByte, f.unpack_pack⟩, fun v => ⟨rfl, Flags.pack_unpack v⟩⟩

end Sys2Proof.Machine
end

section
/-! PROOF. The invariant right after reset, and what no instruction changes. -/

namespace Sys2Proof.Machine

/-- Settles O16: nothing is loaded, so Memory lists no byte and the core halts with no error recorded (R42, R370). -/
theorem resetMeetsTheInvariant : Obligations.ResetMeetsTheInvariant := by
  have hmem : State.reset.MemoryOk := ⟨by decide, State.reset_mem_wf, rfl⟩
  exact ⟨hmem, (State.runOk_of_halt State.reset_runState).2 State.reset_err⟩

/-- Settles O25: an instruction that raises writes `RS` and `ERR`; any other leaves what its handler keeps. -/
theorem configurationIsConstant : Obligations.ConfigurationIsConstant := by
  intro i s t h
  rcases exec_cases h with ⟨r, -, rfl⟩ | ⟨u, npc, hu, rfl⟩
  · exact ⟨rfl, fun hrun => absurd rfl hrun⟩
  · exact ⟨hu.cfg, fun _ => hu.err⟩

end Sys2Proof.Machine
end

section
/-! PROOF. Which flags and registers an instruction writes (R20, R28, R31), for every instruction. Where `KeepsFrame`
says what all handlers keep, `State.WritesOnly` is told what may be written: one lemma per shared operation of Machine/
names it, and `exec_writesOnly` holds these against the tables `flagsWritten`, `destRegs` and `writesSp`. -/

namespace Sys2Proof

/-- The byte registers a pair is made of (R23). -/
def Pair.halves : Pair → List Reg
  | .bc => [.b, .c]
  | .de => [.d, .e]
  | .hl => [.h, .l]
  | .sp => []

/-- Whether a pair code selects SP (R24). -/
def Pair.isSp : Pair → Bool
  | .sp => true
  | _ => false

end Sys2Proof

namespace Sys2Proof.Machine

open Spec

/-! ## What may be written -/

/-- `g` differs from `f` in flags of `w` only. -/
structure Flags.ChangeOnly (w f g : Flags) : Prop where
  z : w.z = false → g.z = f.z
  s : w.s = false → g.s = f.s
  p : w.p = false → g.p = f.p
  cy : w.cy = false → g.cy = f.cy
  ac : w.ac = false → g.ac = f.ac

/-- Of flags, byte registers and SP, `t` differs from `s` in the flags of `w`, the registers of `dst` and, when `wsp` is
true, SP only. -/
structure State.WritesOnly (w : Flags) (dst : List Reg) (wsp : Bool) (s t : State) : Prop where
  flags : w.ChangeOnly s.flags t.flags
  regs : ∀ r, r ∉ dst → t.regs.get r = s.regs.get r
  sp : wsp = false → t.sp = s.sp

/-- The answer is a next state, one that differs from `s` in nothing else that `State.WritesOnly` speaks of. -/
def NextWritesOnly (w : Flags) (dst : List Reg) (wsp : Bool) (s : State) (answer : Answer) : Prop :=
  ∃ t, answer = .next t ∧ s.WritesOnly w dst wsp t

/-- The row of moves, jumps and the stack in the flag table (R31). -/
def noFlags : Flags := { z := false, s := false, p := false, cy := false, ac := false }

/-- The row of the accumulator operations, POP PSW and DAA. -/
def allFlags : Flags := { z := true, s := true, p := true, cy := true, ac := true }

/-- The row of the compares. -/
def allButAux : Flags := { z := true, s := true, p := true, cy := true, ac := false }

/-- The row of INR and DCR. -/
def allButCarry : Flags := { z := true, s := true, p := true, cy := false, ac := true }

/-- The row of the rotates, DAD, STC and CMC. -/
def carryOnly : Flags := { z := false, s := false, p := false, cy := true, ac := false }

/-! ## The flag functions, by the row they belong to -/

theorem Flags.changeOnly_refl (w f : Flags) : w.ChangeOnly f f := by constructor <;> exact fun _ => rfl

theorem Flags.changeOnly_allFlags (f g : Flags) : allFlags.ChangeOnly f g := by constructor <;> exact fun h => nomatch h

theorem Flags.ofCompare_changeOnly (f : Flags) (o : AluOut) : allButAux.ChangeOnly f (f.ofCompare o) where
  z := nofun
  s := nofun
  p := nofun
  cy := nofun
  ac _ := rfl

theorem Flags.ofCount_changeOnly (f : Flags) (o : AluOut) : allButCarry.ChangeOnly f (f.ofCount o) where
  z := nofun
  s := nofun
  p := nofun
  cy _ := rfl
  ac := nofun

theorem Flags.setCy_changeOnly (f : Flags) (b : Bool) : carryOnly.ChangeOnly f { f with cy := b } where
  z _ := rfl
  s _ := rfl
  p _ := rfl
  cy := nofun
  ac _ := rfl

/-! ## The rules of `State.WritesOnly` -/

namespace State.WritesOnly

variable {w : Flags} {dst : List Reg} {wsp : Bool} {s t : State}

theorem refl (w : Flags) (dst : List Reg) (wsp : Bool) (s : State) : s.WritesOnly w dst wsp s :=
  ⟨w.changeOnly_refl _, fun _ _ => rfl, fun _ => rfl⟩

/-- Writes to Memory, PC, `RS` or `ERR` do not count. -/
theorem of_fields {u : State} (h : s.WritesOnly w dst wsp t) (hflags : u.flags = t.flags) (hregs : u.regs = t.regs)
    (hsp : u.sp = t.sp) : s.WritesOnly w dst wsp u where
  flags := hflags ▸ h.flags
  regs := hregs ▸ h.regs
  sp := hsp ▸ h.sp

theorem setReg (h : s.WritesOnly w dst wsp t) {r : Reg} (v : Byte) (hr : r ∈ dst) :
    s.WritesOnly w dst wsp (t.setReg r v) where
  flags := h.flags
  regs q hq := by
    have hne : q ≠ r := fun heq => hq (heq ▸ hr)
    rw [State.setReg_regs, Regs.get_set_other _ _ hne, h.regs q hq]
  sp := h.sp

theorem setFlags (h : s.WritesOnly w dst wsp t) {f : Flags} (hf : w.ChangeOnly s.flags f) :
    s.WritesOnly w dst wsp (t.setFlags f) where
  flags := hf
  regs := h.regs
  sp := h.sp

theorem setAcc (h : s.WritesOnly w dst wsp t) (v : Byte) {f : Flags} (ha : .a ∈ dst) (hf : w.ChangeOnly s.flags f) :
    s.WritesOnly w dst wsp (t.setAcc v f) :=
  (h.setReg v ha).setFlags hf

theorem setSp (h : s.WritesOnly w dst true t) (v : Word) : s.WritesOnly w dst true { t with sp := v } where
  flags := h.flags
  regs := h.regs
  sp := nofun

theorem setPair (h : s.WritesOnly w dst wsp t) {p : Pair} (v : Word) (hdst : ∀ r ∈ p.halves, r ∈ dst)
    (hsp : p.isSp = true → wsp = true) : s.WritesOnly w dst wsp (t.setPair p v) := by
  cases p with
  | bc => exact (h.setReg (highByte v) (hdst .b (by decide))).setReg (lowByte v) (hdst .c (by decide))
  | de => exact (h.setReg (highByte v) (hdst .d (by decide))).setReg (lowByte v) (hdst .e (by decide))
  | hl => exact (h.setReg (highByte v) (hdst .h (by decide))).setReg (lowByte v) (hdst .l (by decide))
  | sp =>
    obtain rfl := hsp rfl
    exact h.setSp v

end State.WritesOnly

/-! ## The shared operations write Memory and SP only -/

theorem Yields.holds {α : Type} {s : State} {x : Except Raise α} {P : α → Prop} {a : α} (h : Yields s x P)
    (hx : x = .ok a) : P a := by
  rw [hx] at h
  exact h

section Rules

open State.WritesOnly (refl)

variable (w : Flags) (dst : List Reg) (wsp : Bool) (s : State)

theorem memWrite_writesOnly (addr : Int) (v : Byte) : Yields s (memWrite s addr v) (s.WritesOnly w dst wsp) := by
  by_cases hb : s.inBounds addr
  · rw [memWrite_ok v hb]
    exact (refl w dst wsp s).of_fields rfl rfl rfl
  · rw [memWrite_raises v hb]
    exact hb

theorem memWrite16_writesOnly (addr : Int) (v : Word) : Yields s (memWrite16 s addr v) (s.WritesOnly w dst wsp) := by
  rcases memWrite16_cases s addr v with ⟨_, _, h⟩ | ⟨a, ha, h⟩ <;> rw [h]
  · exact (refl w dst wsp s).of_fields rfl rfl rfl
  · exact ha

theorem push16_writesOnly (v : Word) : Yields s (push16 s v) (s.WritesOnly w dst true) := by
  rcases push16_cases s v with ⟨_, _, h⟩ | ⟨hb, h⟩ | ⟨_, hb, h⟩ <;> rw [h]
  · exact ((refl w dst true s).setSp (s.sp - 2#16)).of_fields rfl rfl rfl
  · exact hb
  · exact hb

theorem pop16_writesOnly : Yields s (pop16 s) fun x => s.WritesOnly w dst true x.2 := by
  rcases pop16_cases s with ⟨v, h⟩ | ⟨a, ha, h⟩ <;> rw [h]
  · exact (refl w dst true s).setSp _
  · exact ha

end Rules

/-! ## One lemma per shared operation -/

section SharedOperations

open State.WritesOnly (refl)

section Bodies

variable {op : Byte} {s : State} {w : Flags} {dst : List Reg} {wsp : Bool}

/-- Raising an error and ADVANCE write none of the registers and flags in question (R115, R345). -/
theorem runHandler_writesOnly {body : Except Raise Handled}
    (h : Yields s body fun k => s.WritesOnly w dst wsp k.state) :
    NextWritesOnly w dst wsp s (runHandler op s body) := by
  obtain ⟨t, ht⟩ := runHandler_next op s body
  refine ⟨t, ht, ?_⟩
  rcases runHandler_cases ht with ⟨_, rfl⟩ | ⟨_, r, _, rfl⟩ | ⟨_, k, npc, hk, rfl⟩
  · exact (refl w dst wsp s).of_fields rfl rfl rfl
  · exact (refl w dst wsp s).of_fields rfl rfl rfl
  · exact (h.holds hk).of_fields rfl rfl rfl

theorem writesOnly_stay {t : State} (h : s.WritesOnly w dst wsp t) :
    NextWritesOnly w dst wsp s (runHandler op s (.ok (.stay t))) :=
  runHandler_writesOnly (body := .ok (.stay t)) h

theorem writesOnly_goto (target : Word) : NextWritesOnly w dst wsp s (runHandler op s (.ok (.goto s target))) :=
  runHandler_writesOnly (body := .ok (.goto s target)) (refl w dst wsp s)

theorem writesOnly_map_stay {α : Type} {x : Except Raise α} {f : α → State} {P : α → Prop} (h : Yields s x P)
    (hf : ∀ a, P a → s.WritesOnly w dst wsp (f a)) :
    NextWritesOnly w dst wsp s (runHandler op s (x.map fun a => .stay (f a))) :=
  runHandler_writesOnly (h.map hf)

end Bodies

variable (op : Byte) (s : State)

theorem noHandler_writesOnly : NextWritesOnly noFlags [] false s (noHandler op s) :=
  ⟨_, rfl, (refl noFlags [] false s).of_fields rfl rfl rfl⟩

theorem movRegReg_writesOnly (dst src : Reg) : NextWritesOnly noFlags [dst] false s (movRegReg op dst src s) :=
  writesOnly_stay ((refl ..).setReg _ (List.mem_singleton_self dst))

theorem movRegMem_writesOnly (dst : Reg) : NextWritesOnly noFlags [dst] false s (movRegMem op dst s) :=
  writesOnly_map_stay (memRead_yields s _) fun _ _ => (refl ..).setReg _ (List.mem_singleton_self dst)

theorem movMemReg_writesOnly (r : Reg) : NextWritesOnly noFlags [] false s (movMemReg op r s) :=
  writesOnly_map_stay (memWrite_writesOnly _ _ _ s _ _) fun _ ht => ht

theorem ldax_writesOnly (p : Pair) : NextWritesOnly noFlags [.a] false s (ldax op p s) :=
  writesOnly_map_stay (memRead_yields s _) fun _ _ => (refl ..).setReg _ (List.mem_singleton_self _)

theorem stax_writesOnly (p : Pair) : NextWritesOnly noFlags [] false s (stax op p s) :=
  writesOnly_map_stay (memWrite_writesOnly _ _ _ s _ _) fun _ ht => ht

theorem lxi_writesOnly (p : Pair) (d16 : Word) : NextWritesOnly noFlags p.halves p.isSp s (lxi op p d16 s) :=
  writesOnly_stay ((refl ..).setPair d16 (fun _ hr => hr) id)

theorem accumulate_writesOnly (src : Src) (f : Byte → AluOut) :
    NextWritesOnly allFlags [.a] false s (accumulate op src f s) :=
  writesOnly_map_stay (Src.value_yields s src) fun _ _ =>
    (refl ..).setAcc _ (List.mem_singleton_self _) (Flags.changeOnly_allFlags _ _)

theorem addSrc_writesOnly (src : Src) : NextWritesOnly allFlags [.a] false s (addSrc op src s) :=
  accumulate_writesOnly op s src _

theorem adcSrc_writesOnly (src : Src) : NextWritesOnly allFlags [.a] false s (adcSrc op src s) :=
  accumulate_writesOnly op s src _

theorem subSrc_writesOnly (src : Src) : NextWritesOnly allFlags [.a] false s (subSrc op src s) :=
  accumulate_writesOnly op s src _

theorem sbbSrc_writesOnly (src : Src) : NextWritesOnly allFlags [.a] false s (sbbSrc op src s) :=
  accumulate_writesOnly op s src _

theorem anaSrc_writesOnly (src : Src) : NextWritesOnly allFlags [.a] false s (anaSrc op src s) :=
  accumulate_writesOnly op s src _

theorem xraSrc_writesOnly (src : Src) : NextWritesOnly allFlags [.a] false s (xraSrc op src s) :=
  accumulate_writesOnly op s src _

theorem oraSrc_writesOnly (src : Src) : NextWritesOnly allFlags [.a] false s (oraSrc op src s) :=
  accumulate_writesOnly op s src _

theorem cmpSrc_writesOnly (src : Src) : NextWritesOnly allButAux [] false s (cmpSrc op src s) :=
  writesOnly_map_stay (Src.value_yields s src) fun _ _ => (refl ..).setFlags (Flags.ofCompare_changeOnly _ _)

theorem rotateAcc_writesOnly (o : Byte × Bool) : NextWritesOnly carryOnly [.a] false s (rotateAcc op o s) :=
  writesOnly_stay ((refl ..).setAcc _ (List.mem_singleton_self _) (Flags.setCy_changeOnly _ _))

theorem complementAcc_writesOnly : NextWritesOnly noFlags [.a] false s (complementAcc op s) :=
  writesOnly_stay ((refl ..).setReg _ (List.mem_singleton_self _))

theorem noOperation_writesOnly : NextWritesOnly noFlags [] false s (noOperation op s) := writesOnly_stay (refl ..)

theorem pushWord_writesOnly (v : Word) : NextWritesOnly noFlags [] true s (pushWord op v s) :=
  writesOnly_map_stay (push16_writesOnly _ _ s v) fun _ ht => ht

theorem popPair_writesOnly (p : Pair) : NextWritesOnly noFlags p.halves true s (popPair op p s) :=
  writesOnly_map_stay (pop16_writesOnly _ _ s) fun _ ht => ht.setPair _ (fun _ hr => hr) fun _ => rfl

theorem popPsw_writesOnly : NextWritesOnly allFlags [.a] true s (popPsw op s) :=
  writesOnly_map_stay (pop16_writesOnly _ _ s) fun _ ht =>
    ht.setAcc _ (List.mem_singleton_self _) (Flags.changeOnly_allFlags _ _)

theorem jumpTo_writesOnly (a16 : Word) : NextWritesOnly noFlags [] false s (jumpTo op a16 s) := writesOnly_goto a16

theorem jumpIf_writesOnly (cond : Cond) (a16 : Word) : NextWritesOnly noFlags [] false s (jumpIf op cond a16 s) := by
  unfold jumpIf
  split
  · exact writesOnly_goto a16
  · exact writesOnly_stay (refl ..)

theorem jumpPair_writesOnly : NextWritesOnly noFlags [] false s (jumpPair op s) := writesOnly_goto _

theorem callTo_writesOnly (target : Word) : NextWritesOnly noFlags [] true s (callTo op target s) :=
  runHandler_writesOnly ((push16_writesOnly _ _ s _).map fun _ ht => ht)

theorem returnFrom_writesOnly : NextWritesOnly noFlags [] true s (returnFrom op s) :=
  runHandler_writesOnly ((pop16_writesOnly _ _ s).map fun _ ht => ht)

theorem callIf_writesOnly (cond : Cond) (a16 : Word) : NextWritesOnly noFlags [] true s (callIf op cond a16 s) := by
  unfold callIf
  split
  · exact callTo_writesOnly op s a16
  · exact writesOnly_stay (refl ..)

theorem returnIf_writesOnly (cond : Cond) : NextWritesOnly noFlags [] true s (returnIf op cond s) := by
  unfold returnIf
  split
  · exact returnFrom_writesOnly op s
  · exact writesOnly_stay (refl ..)

theorem mviReg_writesOnly (r : Reg) (d8 : Byte) : NextWritesOnly noFlags [r] false s (mviReg op r d8 s) :=
  writesOnly_stay ((refl ..).setReg _ (List.mem_singleton_self r))

theorem mviMem_writesOnly (d8 : Byte) : NextWritesOnly noFlags [] false s (mviMem op d8 s) :=
  writesOnly_map_stay (memWrite_writesOnly _ _ _ s _ _) fun _ ht => ht

theorem loadDirect_writesOnly (a16 : Word) : NextWritesOnly noFlags [.a] false s (loadDirect op a16 s) :=
  writesOnly_map_stay (memRead_yields s _) fun _ _ => (refl ..).setReg _ (List.mem_singleton_self _)

theorem storeDirect_writesOnly (a16 : Word) : NextWritesOnly noFlags [] false s (storeDirect op a16 s) :=
  writesOnly_map_stay (memWrite_writesOnly _ _ _ s _ _) fun _ ht => ht

theorem loadPairDirect_writesOnly (a16 : Word) : NextWritesOnly noFlags [.h, .l] false s (loadPairDirect op a16 s) :=
  writesOnly_map_stay (memRead16_yields s _) fun v _ => (refl ..).setPair (p := .hl) v (fun _ hr => hr) nofun

theorem storePairDirect_writesOnly (a16 : Word) : NextWritesOnly noFlags [] false s (storePairDirect op a16 s) :=
  writesOnly_map_stay (memWrite16_writesOnly _ _ _ s _ _) fun _ ht => ht

theorem exchangePairs_writesOnly : NextWritesOnly noFlags [.d, .e, .h, .l] false s (exchangePairs op s) :=
  writesOnly_stay (((refl ..).setPair (p := .hl) _ (by decide) nofun).setPair (p := .de) _ (by decide) nofun)

theorem exchangeTop_writesOnly : NextWritesOnly noFlags [.h, .l] false s (exchangeTop op s) := by
  refine runHandler_writesOnly ?_
  split
  · rename_i hread
    exact (memRead16_yields s s.sp.toNat).justified hread
  · exact (memWrite16_writesOnly _ _ _ s _ _).map fun _ ht => ht.setPair (p := .hl) _ (fun _ hr => hr) nofun

theorem inrReg_writesOnly (r : Reg) : NextWritesOnly allButCarry [r] false s (inrReg op r s) :=
  writesOnly_stay (((refl ..).setReg _ (List.mem_singleton_self r)).setFlags (Flags.ofCount_changeOnly _ _))

theorem inrMem_writesOnly : NextWritesOnly allButCarry [] false s (inrMem op s) := by
  refine runHandler_writesOnly ?_
  split
  · rename_i hread
    exact (memRead_yields s s.addrM).justified hread
  · exact (memWrite_writesOnly _ _ _ s _ _).map fun _ ht => ht.setFlags (Flags.ofCount_changeOnly _ _)

theorem dcrReg_writesOnly (r : Reg) : NextWritesOnly allButCarry [r] false s (dcrReg op r s) :=
  writesOnly_stay (((refl ..).setReg _ (List.mem_singleton_self r)).setFlags (Flags.ofCount_changeOnly _ _))

theorem dcrMem_writesOnly : NextWritesOnly allButCarry [] false s (dcrMem op s) := by
  refine runHandler_writesOnly ?_
  split
  · rename_i hread
    exact (memRead_yields s s.addrM).justified hread
  · exact (memWrite_writesOnly _ _ _ s _ _).map fun _ ht => ht.setFlags (Flags.ofCount_changeOnly _ _)

theorem inxPair_writesOnly (p : Pair) : NextWritesOnly noFlags p.halves p.isSp s (inxPair op p s) :=
  writesOnly_stay ((refl ..).setPair _ (fun _ hr => hr) id)

theorem dcxPair_writesOnly (p : Pair) : NextWritesOnly noFlags p.halves p.isSp s (dcxPair op p s) :=
  writesOnly_stay ((refl ..).setPair _ (fun _ hr => hr) id)

theorem dadPair_writesOnly (p : Pair) : NextWritesOnly carryOnly [.h, .l] false s (dadPair op p s) :=
  writesOnly_stay (((refl ..).setPair (p := .hl) _ (fun _ hr => hr) nofun).setFlags (Flags.setCy_changeOnly _ _))

theorem decimalAdjust_writesOnly : NextWritesOnly allFlags [.a] false s (decimalAdjust op s) :=
  writesOnly_stay ((refl ..).setAcc _ (List.mem_singleton_self _) (Flags.changeOnly_allFlags _ _))

theorem setCarry_writesOnly : NextWritesOnly carryOnly [] false s (setCarry op s) :=
  writesOnly_stay ((refl ..).setFlags (Flags.setCy_changeOnly _ _))

theorem complementCarry_writesOnly : NextWritesOnly carryOnly [] false s (complementCarry op s) :=
  writesOnly_stay ((refl ..).setFlags (Flags.setCy_changeOnly _ _))

theorem loadSp_writesOnly : NextWritesOnly noFlags [] true s (loadSp op s) := writesOnly_stay ((refl ..).setSp _)

end SharedOperations

/-! ## Every instruction -/

/-- Every instruction writes what its rows of the three tables name, and no other flag or register (R20, R28, R31). -/
theorem exec_writesOnly (i : Instr) (s : State) :
    NextWritesOnly (flagsWritten i) (destRegs i) (writesSp i) s (exec i s) := by
  unfold exec
  cases i with
  | movBB | movBC | movBD | movBE | movBH | movBL | movBA | movCB | movCC | movCD | movCE | movCH | movCL
  | movCA | movDB | movDC | movDD | movDE | movDH | movDL | movDA | movEB | movEC | movED | movEE | movEH
  | movEL | movEA | movHB | movHC | movHD | movHE | movHH | movHL | movHA | movLB | movLC | movLD | movLE
  | movLH | movLL | movLA | movAB | movAC | movAD | movAE | movAH | movAL | movAA => exact movRegReg_writesOnly ..
  | movBM | movCM | movDM | movEM | movHM | movLM | movAM => exact movRegMem_writesOnly ..
  | movMB | movMC | movMD | movME | movMH | movML | movMA => exact movMemReg_writesOnly ..
  | ldaxB | ldaxD => exact ldax_writesOnly ..
  | staxB | staxD => exact stax_writesOnly ..
  | lxiB => exact lxi_writesOnly _ s .bc _
  | lxiD => exact lxi_writesOnly _ s .de _
  | lxiH => exact lxi_writesOnly _ s .hl _
  | lxiSp => exact lxi_writesOnly _ s .sp _
  | addB | addC | addD | addE | addH | addL | addA | addM | adi => exact addSrc_writesOnly ..
  | adcB | adcC | adcD | adcE | adcH | adcL | adcA | adcM | aci => exact adcSrc_writesOnly ..
  | subB | subC | subD | subE | subH | subL | subA | subM | sui => exact subSrc_writesOnly ..
  | sbbB | sbbC | sbbD | sbbE | sbbH | sbbL | sbbA | sbbM | sbi => exact sbbSrc_writesOnly ..
  | anaB | anaC | anaD | anaE | anaH | anaL | anaA | anaM | ani => exact anaSrc_writesOnly ..
  | xraB | xraC | xraD | xraE | xraH | xraL | xraA | xraM | xri => exact xraSrc_writesOnly ..
  | oraB | oraC | oraD | oraE | oraH | oraL | oraA | oraM | ori => exact oraSrc_writesOnly ..
  | cmpB | cmpC | cmpD | cmpE | cmpH | cmpL | cmpA | cmpM | cpi => exact cmpSrc_writesOnly ..
  | rlc | rrc | ral | rar => exact rotateAcc_writesOnly ..
  | cma => exact complementAcc_writesOnly ..
  | nop => exact noOperation_writesOnly ..
  | pushB | pushD | pushH | pushPsw => exact pushWord_writesOnly ..
  | popB => exact popPair_writesOnly _ s .bc
  | popD => exact popPair_writesOnly _ s .de
  | popH => exact popPair_writesOnly _ s .hl
  | popPsw => exact popPsw_writesOnly ..
  | jmp => exact jumpTo_writesOnly ..
  | jnz | jz | jnc | jc | jpo | jpe | jp | jm => exact jumpIf_writesOnly ..
  | call | rst0 | rst1 | rst2 | rst3 | rst4 | rst5 | rst6 | rst7 => exact callTo_writesOnly ..
  | ret => exact returnFrom_writesOnly ..
  | mviB | mviC | mviD | mviE | mviH | mviL | mviA => exact mviReg_writesOnly ..
  | mviM => exact mviMem_writesOnly ..
  | lda => exact loadDirect_writesOnly ..
  | sta => exact storeDirect_writesOnly ..
  | lhld => exact loadPairDirect_writesOnly ..
  | shld => exact storePairDirect_writesOnly ..
  | xchg => exact exchangePairs_writesOnly ..
  | xthl => exact exchangeTop_writesOnly ..
  | inrB | inrC | inrD | inrE | inrH | inrL | inrA => exact inrReg_writesOnly ..
  | inrM => exact inrMem_writesOnly ..
  | dcrB | dcrC | dcrD | dcrE | dcrH | dcrL | dcrA => exact dcrReg_writesOnly ..
  | dcrM => exact dcrMem_writesOnly ..
  | inxB => exact inxPair_writesOnly _ s .bc
  | inxD => exact inxPair_writesOnly _ s .de
  | inxH => exact inxPair_writesOnly _ s .hl
  | inxSp => exact inxPair_writesOnly _ s .sp
  | dcxB => exact dcxPair_writesOnly _ s .bc
  | dcxD => exact dcxPair_writesOnly _ s .de
  | dcxH => exact dcxPair_writesOnly _ s .hl
  | dcxSp => exact dcxPair_writesOnly _ s .sp
  | dadB | dadD | dadH | dadSp => exact dadPair_writesOnly ..
  | daa => exact decimalAdjust_writesOnly ..
  | stc => exact setCarry_writesOnly ..
  | cmc => exact complementCarry_writesOnly ..
  | sphl => exact loadSp_writesOnly ..
  | cnz | cz | cnc | cc | cpo | cpe | cp | cm => exact callIf_writesOnly ..
  | rnz | rz | rnc | rc | rpo | rpe | rp | rm => exact returnIf_writesOnly ..
  | pchl => exact jumpPair_writesOnly ..
  | hlt | inPort | outPort | di | ei | undoc08 | undoc10 | undoc18 | undoc20 | undoc28 | undoc30 | undoc38
  | undocCB | undocD9 | undocDD | undocED | undocFD => exact noHandler_writesOnly ..

/-- The same, of a next state that is known. -/
theorem exec_next_writesOnly {i : Instr} {s t : State} (h : exec i s = .next t) :
    s.WritesOnly (flagsWritten i) (destRegs i) (writesSp i) t := by
  obtain ⟨u, hu, hw⟩ := exec_writesOnly i s
  obtain rfl : t = u := Host.Outcome.next.inj (h.symm.trans hu)
  exact hw

/-- Settles O23: the flag part of what every instruction writes. -/
theorem flagsChangeOnlyWhereWritten : Obligations.FlagsChangeOnlyWhereWritten := by
  intro i s t h
  obtain ⟨hz, hs, hp, hcy, hac⟩ := (exec_next_writesOnly h).flags
  exact ⟨hz, hs, hp, hcy, hac⟩

/-- Settles O24: the register part of what every instruction writes. -/
theorem registersChangeOnlyWhereNamed : Obligations.RegistersChangeOnlyWhereNamed := by
  intro i s t h
  obtain ⟨-, hregs, hsp⟩ := exec_next_writesOnly h
  exact ⟨hregs, hsp⟩

end Sys2Proof.Machine
end

section
/-! PROOF. AuxiliaryCarry is read by PUSH PSW and DAA only (R31). Every other instruction is run from `s` and from
`s.withAc ac` side by side: one lemma per shared operation of Machine/ says that the two runs raise alike or leave
states that differ in `AC` at most (`AcBlind`), and `exec_acBlind` sorts the instructions by shape. -/

namespace Sys2Proof.Machine

/-! ## States, operations and answers that differ in `AC` at most -/

/-- The state with another AuxiliaryCarry. -/
def State.withAc (s : State) (ac : Bool) : State := { s with flags := { s.flags with ac := ac } }

/-- `t'` is `t` but for `AC`. -/
def State.SameButAc (t t' : State) : Prop := ∃ ac, t' = t.withAc ac

/-- Two handlers leave the same but for `AC`. -/
structure Handled.SameButAc (k k' : Handled) : Prop where
  state : k.state.SameButAc k'.state
  target : k'.target = k.target

/-- Two operations that may raise: both raise the same, or both give results that `R` relates. -/
def Related {α : Type} (R : α → α → Prop) : Except Raise α → Except Raise α → Prop
  | .error r, .error r' => r' = r
  | .ok a, .ok a' => R a a'
  | _, _ => False

/-- Both answers are next states, the same but for `AC`. -/
def Answer.SameButAc (answer answer' : Answer) : Prop :=
  ∃ t t', answer = .next t ∧ answer' = .next t' ∧ t.SameButAc t'

/-- An instruction's meaning does not read `AC`: another `AC` before it shows in `AC` after it at most. -/
structure AcBlind (meaning : State → Answer) : Prop where
  of_withAc (s : State) (ac : Bool) : Answer.SameButAc (meaning s) (meaning (s.withAc ac))

/-! ## What does not read `AC` -/

@[simp] theorem State.pair_withAc (s : State) (ac : Bool) (p : Pair) : (s.withAc ac).pair p = s.pair p := by
  cases p <;> rfl

@[simp] theorem State.pairAddr_withAc (s : State) (ac : Bool) (p : Pair) : (s.withAc ac).pairAddr p = s.pairAddr p := by
  simp only [State.pairAddr, State.pair_withAc]

@[simp] theorem State.addrM_withAc (s : State) (ac : Bool) : (s.withAc ac).addrM = s.addrM := rfl

@[simp] theorem State.sp_withAc (s : State) (ac : Bool) : (s.withAc ac).sp = s.sp := rfl

@[simp] theorem memRead_withAc (s : State) (ac : Bool) (addr : Int) : memRead (s.withAc ac) addr = memRead s addr := rfl

@[simp] theorem memRead16_withAc (s : State) (ac : Bool) (addr : Int) :
    memRead16 (s.withAc ac) addr = memRead16 s addr := rfl

@[simp] theorem Src.value_withAc (s : State) (ac : Bool) (src : Src) : src.value (s.withAc ac) = src.value s := by
  cases src <;> rfl

/-- No condition tests `AC` (R128). -/
@[simp] theorem condHolds_withAc (cond : Cond) (s : State) (ac : Bool) :
    condHolds cond (s.withAc ac).flags = condHolds cond s.flags := by
  cases cond <;> rfl

theorem State.setPair_withAc (s : State) (ac : Bool) (p : Pair) (v : Word) :
    (s.withAc ac).setPair p v = (s.setPair p v).withAc ac := by
  cases p <;> rfl

/-! ## The rules of `SameButAc` and `Related` -/

namespace State.SameButAc

variable {t t' : State}

theorem refl (t : State) : t.SameButAc t := ⟨t.flags.ac, rfl⟩

theorem withAc (t : State) (ac : Bool) : t.SameButAc (t.withAc ac) := ⟨ac, rfl⟩

theorem setPair (h : t.SameButAc t') (p : Pair) (v : Word) : (t.setPair p v).SameButAc (t'.setPair p v) := by
  obtain ⟨ac, rfl⟩ := h
  exact ⟨ac, t.setPair_withAc ac p v⟩

/-- Writing all the flags leaves no difference. -/
theorem setFlags (h : t.SameButAc t') (f : Flags) : (t.setFlags f).SameButAc (t'.setFlags f) := by
  obtain ⟨ac, rfl⟩ := h
  exact refl (t.setFlags f)

theorem setPsw (h : t.SameButAc t') (v : Word) : (t.setPsw v).SameButAc (t'.setPsw v) := by
  obtain ⟨ac, rfl⟩ := h
  exact refl (t.setPsw v)

theorem advance (h : t.SameButAc t') (npc : Nat) : (t.advance npc).SameButAc (t'.advance npc) := by
  obtain ⟨ac, rfl⟩ := h
  exact withAc (t.advance npc) ac

end State.SameButAc

theorem Related.map {α β : Type} {R : α → α → Prop} {Q : β → β → Prop} {x x' : Except Raise α}
    {f f' : α → β} (h : Related R x x') (hf : ∀ a a', R a a' → Q (f a) (f' a')) :
    Related Q (x.map f) (x'.map f') := by
  cases x <;> cases x'
  case error.error => exact h
  case ok.ok => exact hf _ _ h
  all_goals exact h.elim

theorem Related.of_eq {α : Type} (x : Except Raise α) : Related (fun a a' => a' = a) x x := by
  cases x <;> rfl

section Rules

variable (s : State) (ac : Bool)

theorem memWrite_related (addr : Int) (v : Byte) :
    Related State.SameButAc (memWrite s addr v) (memWrite (s.withAc ac) addr v) := by
  unfold memWrite
  show Related _ _ (if s.inBounds addr then _ else _)
  split_ifs
  · exact ⟨ac, rfl⟩
  · rfl

theorem memWrite16_related (addr : Int) (v : Word) :
    Related State.SameButAc (memWrite16 s addr v) (memWrite16 (s.withAc ac) addr v) := by
  unfold memWrite16
  show Related _ _ (if s.inBounds addr then if s.inBounds (addr + 1) then _ else _ else _)
  split_ifs
  · exact ⟨ac, rfl⟩
  · rfl
  · rfl

theorem push16_related (v : Word) : Related State.SameButAc (push16 s v) (push16 (s.withAc ac) v) := by
  simp only [push16]
  show Related _ _
    (if s.inBounds ((s.sp.toNat : Int) - 1) then if s.inBounds ((s.sp.toNat : Int) - 2) then _ else _ else _)
  split_ifs
  · exact ⟨ac, rfl⟩
  · rfl
  · rfl

/-- Two pops give the same word and leave states that differ in `AC` at most. -/
theorem pop16_related :
    Related (fun x x' => x'.1 = x.1 ∧ x.2.SameButAc x'.2) (pop16 s) (pop16 (s.withAc ac)) := by
  unfold pop16
  rw [memRead16_withAc, State.sp_withAc]
  cases memRead16 s s.sp.toNat with
  | error r => rfl
  | ok v => exact ⟨rfl, ac, rfl⟩

end Rules

/-! ## The rules of a handler's frame -/

section Bodies

variable {op : Byte} {s : State} {ac : Bool}

/-- EXECUTE and ADVANCE do not read `AC`: the handler lookup reads the configuration, `npc` reads PC (R112 to R116). -/
theorem runHandler_sameButAc {body body' : Except Raise Handled} (h : Related Handled.SameButAc body body') :
    Answer.SameButAc (runHandler op s body) (runHandler op (s.withAc ac) body') := by
  have hraise (r : Raise) : (s.raise op r).SameButAc ((s.withAc ac).raise op r) := ⟨ac, rfl⟩
  cases hh : handled s.cfg.handlers op with
  | false => exact ⟨_, _, runHandler_unhandled body hh, runHandler_unhandled body' hh, hraise _⟩
  | true =>
    cases body <;> cases body'
    case error.error r r' =>
      obtain rfl : r' = r := h
      exact ⟨_, _, runHandler_error r' hh, runHandler_error r' hh, hraise r'⟩
    case ok.ok k k' =>
      obtain ⟨t, target⟩ := k
      obtain ⟨t', target'⟩ := k'
      obtain ⟨hstate, rfl⟩ := h
      cases target' with
      | none => exact ⟨_, _, runHandler_stay t hh, runHandler_stay t' hh, hstate.advance _⟩
      | some target => exact ⟨_, _, runHandler_goto t target hh, runHandler_goto t' target hh, hstate.advance _⟩
    all_goals exact h.elim

theorem sameButAc_stay {t t' : State} (h : t.SameButAc t') :
    Answer.SameButAc (runHandler op s (.ok (.stay t))) (runHandler op (s.withAc ac) (.ok (.stay t'))) :=
  runHandler_sameButAc (body := .ok (.stay t)) (body' := .ok (.stay t')) ⟨h, rfl⟩

theorem sameButAc_goto (target : Word) :
    Answer.SameButAc (runHandler op s (.ok (.goto s target)))
      (runHandler op (s.withAc ac) (.ok (.goto (s.withAc ac) target))) :=
  runHandler_sameButAc (body := .ok (.goto s target)) (body' := .ok (.goto _ target)) ⟨.withAc s ac, rfl⟩

/-- A handler that stays after an operation that may raise. -/
theorem sameButAc_map_stay {α : Type} {R : α → α → Prop} {x x' : Except Raise α} {f f' : α → State}
    (h : Related R x x') (hf : ∀ a a', R a a' → (f a).SameButAc (f' a')) :
    Answer.SameButAc (runHandler op s (x.map fun a => .stay (f a)))
      (runHandler op (s.withAc ac) (x'.map fun a => .stay (f' a))) :=
  runHandler_sameButAc (h.map fun a a' ha => ⟨hf a a' ha, rfl⟩)

/-- A handler that stays after reading a value, which is the same in both runs. -/
theorem sameButAc_read {α : Type} {x x' : Except Raise α} {f f' : α → State} (hx : x' = x)
    (hf : ∀ a, (f a).SameButAc (f' a)) :
    Answer.SameButAc (runHandler op s (x.map fun a => .stay (f a)))
      (runHandler op (s.withAc ac) (x'.map fun a => .stay (f' a))) := by
  subst hx
  exact sameButAc_map_stay (.of_eq x') fun a _ ha => ha ▸ hf a

end Bodies

/-! ## One lemma per shared operation -/

section SharedOperations

open State.SameButAc (withAc)

variable (op : Byte)

theorem noHandler_acBlind : AcBlind (noHandler op) where
  of_withAc _ ac := ⟨_, _, rfl, rfl, ac, rfl⟩

theorem movRegReg_acBlind (dst src : Reg) : AcBlind (movRegReg op dst src) where
  of_withAc s ac := sameButAc_stay (withAc (s.setReg dst (s.reg src)) ac)

theorem movRegMem_acBlind (dst : Reg) : AcBlind (movRegMem op dst) where
  of_withAc s ac := sameButAc_read rfl fun v => withAc (s.setReg dst v) ac

theorem movMemReg_acBlind (r : Reg) : AcBlind (movMemReg op r) where
  of_withAc s ac := sameButAc_map_stay (memWrite_related s ac s.addrM (s.reg r)) fun _ _ ht => ht

theorem ldax_acBlind (p : Pair) : AcBlind (ldax op p) where
  of_withAc s ac :=
    sameButAc_read (by simp only [memRead_withAc, State.pairAddr_withAc]) fun v => withAc (s.setReg .a v) ac

theorem stax_acBlind (p : Pair) : AcBlind (stax op p) where
  of_withAc s ac := by
    unfold stax
    rw [State.pairAddr_withAc]
    exact sameButAc_map_stay (memWrite_related s ac _ s.regs.a) fun _ _ ht => ht

theorem lxi_acBlind (p : Pair) (d16 : Word) : AcBlind (lxi op p d16) where
  of_withAc s ac := sameButAc_stay ((withAc s ac).setPair p d16)

/-- All five flags are written, `AC` among them. -/
theorem accumulate_sameButAc {s : State} {ac : Bool} (src : Src) (f : Byte → AluOut) :
    Answer.SameButAc (accumulate op src f s) (accumulate op src f (s.withAc ac)) :=
  sameButAc_read (Src.value_withAc s ac src) fun v => .refl (s.setAcc (f v).r (s.flags.ofAlu (f v)))

theorem addSrc_acBlind (src : Src) : AcBlind (addSrc op src) where
  of_withAc _ _ := accumulate_sameButAc op src _

theorem adcSrc_acBlind (src : Src) : AcBlind (adcSrc op src) where
  of_withAc _ _ := accumulate_sameButAc op src _

theorem subSrc_acBlind (src : Src) : AcBlind (subSrc op src) where
  of_withAc _ _ := accumulate_sameButAc op src _

theorem sbbSrc_acBlind (src : Src) : AcBlind (sbbSrc op src) where
  of_withAc _ _ := accumulate_sameButAc op src _

theorem anaSrc_acBlind (src : Src) : AcBlind (anaSrc op src) where
  of_withAc _ _ := accumulate_sameButAc op src _

theorem xraSrc_acBlind (src : Src) : AcBlind (xraSrc op src) where
  of_withAc _ _ := accumulate_sameButAc op src _

theorem oraSrc_acBlind (src : Src) : AcBlind (oraSrc op src) where
  of_withAc _ _ := accumulate_sameButAc op src _

theorem cmpSrc_acBlind (src : Src) : AcBlind (cmpSrc op src) where
  of_withAc s ac :=
    sameButAc_read (Src.value_withAc s ac src) fun v =>
      withAc (s.setFlags (s.flags.ofCompare (sub8 s.regs.a v false))) ac

/-- A rotate takes the accumulator and Carry only. -/
theorem rotateAcc_acBlind (o : Byte → Bool → Byte × Bool) :
    AcBlind fun s => rotateAcc op (o s.regs.a s.flags.cy) s where
  of_withAc s ac :=
    sameButAc_stay (withAc (s.setAcc (o s.regs.a s.flags.cy).1 { s.flags with cy := (o s.regs.a s.flags.cy).2 }) ac)

theorem complementAcc_acBlind : AcBlind (complementAcc op) where
  of_withAc s ac := sameButAc_stay (withAc (s.setReg .a (~~~s.regs.a)) ac)

theorem noOperation_acBlind : AcBlind (noOperation op) where
  of_withAc s ac := sameButAc_stay (withAc s ac)

/-- Pushing a pair; the pushed PSW is another matter. -/
theorem pushPair_acBlind (p : Pair) : AcBlind fun s => pushWord op (s.pair p) s where
  of_withAc s ac := by
    simp only [pushWord, State.pair_withAc]
    exact sameButAc_map_stay (push16_related s ac (s.pair p)) fun _ _ ht => ht

theorem popPair_acBlind (p : Pair) : AcBlind (popPair op p) where
  of_withAc s ac := sameButAc_map_stay (pop16_related s ac) fun x _ ⟨hword, ht⟩ => hword ▸ ht.setPair p x.1

theorem popPsw_acBlind : AcBlind (popPsw op) where
  of_withAc s ac := sameButAc_map_stay (pop16_related s ac) fun x _ ⟨hword, ht⟩ => hword ▸ ht.setPsw x.1

theorem jumpTo_acBlind (a16 : Word) : AcBlind (jumpTo op a16) where
  of_withAc _ _ := sameButAc_goto a16

theorem jumpIf_acBlind (cond : Cond) (a16 : Word) : AcBlind (jumpIf op cond a16) where
  of_withAc s ac := by
    unfold jumpIf
    rw [condHolds_withAc]
    split
    · exact sameButAc_goto a16
    · exact sameButAc_stay (withAc s ac)

theorem jumpPair_acBlind : AcBlind (jumpPair op) where
  of_withAc s _ := sameButAc_goto (s.pair .hl)

theorem callTo_acBlind (target : Word) : AcBlind (callTo op target) where
  of_withAc s ac := runHandler_sameButAc ((push16_related s ac (returnAddress op s)).map fun _ _ ht => ⟨ht, rfl⟩)

theorem returnFrom_acBlind : AcBlind (returnFrom op) where
  of_withAc s ac :=
    runHandler_sameButAc ((pop16_related s ac).map fun _ _ ⟨hword, ht⟩ => ⟨ht, congrArg some hword⟩)

theorem callIf_acBlind (cond : Cond) (a16 : Word) : AcBlind (callIf op cond a16) where
  of_withAc s ac := by
    unfold callIf
    rw [condHolds_withAc]
    split
    · exact (callTo_acBlind op a16).of_withAc s ac
    · exact sameButAc_stay (withAc s ac)

theorem returnIf_acBlind (cond : Cond) : AcBlind (returnIf op cond) where
  of_withAc s ac := by
    unfold returnIf
    rw [condHolds_withAc]
    split
    · exact (returnFrom_acBlind op).of_withAc s ac
    · exact sameButAc_stay (withAc s ac)

theorem mviReg_acBlind (r : Reg) (d8 : Byte) : AcBlind (mviReg op r d8) where
  of_withAc s ac := sameButAc_stay (withAc (s.setReg r d8) ac)

theorem mviMem_acBlind (d8 : Byte) : AcBlind (mviMem op d8) where
  of_withAc s ac := sameButAc_map_stay (memWrite_related s ac s.addrM d8) fun _ _ ht => ht

theorem loadDirect_acBlind (a16 : Word) : AcBlind (loadDirect op a16) where
  of_withAc s ac := sameButAc_read rfl fun v => withAc (s.setReg .a v) ac

theorem storeDirect_acBlind (a16 : Word) : AcBlind (storeDirect op a16) where
  of_withAc s ac := sameButAc_map_stay (memWrite_related s ac a16.toNat s.regs.a) fun _ _ ht => ht

theorem loadPairDirect_acBlind (a16 : Word) : AcBlind (loadPairDirect op a16) where
  of_withAc s ac := sameButAc_read rfl fun v => (withAc s ac).setPair .hl v

theorem storePairDirect_acBlind (a16 : Word) : AcBlind (storePairDirect op a16) where
  of_withAc s ac := sameButAc_map_stay (memWrite16_related s ac a16.toNat (s.pair .hl)) fun _ _ ht => ht

theorem exchangePairs_acBlind : AcBlind (exchangePairs op) where
  of_withAc s ac := sameButAc_stay (((withAc s ac).setPair .hl (s.pair .de)).setPair .de (s.pair .hl))

theorem exchangeTop_acBlind : AcBlind (exchangeTop op) where
  of_withAc s ac := by
    refine runHandler_sameButAc ?_
    rw [memRead16_withAc, State.sp_withAc, State.pair_withAc]
    cases memRead16 s s.sp.toNat with
    | error r => rfl
    | ok v => exact (memWrite16_related s ac s.sp.toNat (s.pair .hl)).map fun _ _ ht => ⟨ht.setPair .hl v, rfl⟩

/-- `AC` is written, so the two states left are the same. -/
theorem inrReg_acBlind (r : Reg) : AcBlind (inrReg op r) where
  of_withAc s _ :=
    let o := add8 (s.reg r) 1#8 false
    sameButAc_stay (.refl ((s.setReg r o.r).setFlags (s.flags.ofCount o)))

theorem inrMem_acBlind : AcBlind (inrMem op) where
  of_withAc s ac := by
    refine runHandler_sameButAc ?_
    rw [memRead_withAc, State.addrM_withAc]
    cases memRead s s.addrM with
    | error r => rfl
    | ok v => exact (memWrite_related s ac s.addrM _).map fun _ _ ht => ⟨ht.setFlags _, rfl⟩

theorem dcrReg_acBlind (r : Reg) : AcBlind (dcrReg op r) where
  of_withAc s _ :=
    let o := sub8 (s.reg r) 1#8 false
    sameButAc_stay (.refl ((s.setReg r o.r).setFlags (s.flags.ofCount o)))

theorem dcrMem_acBlind : AcBlind (dcrMem op) where
  of_withAc s ac := by
    refine runHandler_sameButAc ?_
    rw [memRead_withAc, State.addrM_withAc]
    cases memRead s s.addrM with
    | error r => rfl
    | ok v => exact (memWrite_related s ac s.addrM _).map fun _ _ ht => ⟨ht.setFlags _, rfl⟩

theorem inxPair_acBlind (p : Pair) : AcBlind (inxPair op p) where
  of_withAc s ac := by
    unfold inxPair
    rw [State.pair_withAc]
    exact sameButAc_stay ((withAc s ac).setPair p _)

theorem dcxPair_acBlind (p : Pair) : AcBlind (dcxPair op p) where
  of_withAc s ac := by
    unfold dcxPair
    rw [State.pair_withAc]
    exact sameButAc_stay ((withAc s ac).setPair p _)

theorem dadPair_acBlind (p : Pair) : AcBlind (dadPair op p) where
  of_withAc s ac := by
    have hsum : dadSum p (s.withAc ac) = dadSum p s := by simp only [dadSum, State.pair_withAc]
    unfold dadPair
    rw [hsum]
    exact sameButAc_stay (withAc ((s.setPair .hl _).setFlags { s.flags with cy := _ }) ac)

theorem setCarry_acBlind : AcBlind (setCarry op) where
  of_withAc s ac := sameButAc_stay (withAc (s.setFlags { s.flags with cy := true }) ac)

theorem complementCarry_acBlind : AcBlind (complementCarry op) where
  of_withAc s ac := sameButAc_stay (withAc (s.setFlags { s.flags with cy := !s.flags.cy }) ac)

theorem loadSp_acBlind : AcBlind (loadSp op) where
  of_withAc s ac := sameButAc_stay ((withAc s ac).setPair .sp (s.pair .hl))

end SharedOperations

/-! ## Every instruction but PUSH PSW and DAA -/

theorem exec_acBlind {i : Instr} (hpush : i ≠ .pushPsw) (hdaa : i ≠ .daa) : AcBlind (exec i) := by
  unfold exec
  cases i with
  | movBB | movBC | movBD | movBE | movBH | movBL | movBA | movCB | movCC | movCD | movCE | movCH | movCL
  | movCA | movDB | movDC | movDD | movDE | movDH | movDL | movDA | movEB | movEC | movED | movEE | movEH
  | movEL | movEA | movHB | movHC | movHD | movHE | movHH | movHL | movHA | movLB | movLC | movLD | movLE
  | movLH | movLL | movLA | movAB | movAC | movAD | movAE | movAH | movAL | movAA => exact movRegReg_acBlind ..
  | movBM | movCM | movDM | movEM | movHM | movLM | movAM => exact movRegMem_acBlind ..
  | movMB | movMC | movMD | movME | movMH | movML | movMA => exact movMemReg_acBlind ..
  | ldaxB | ldaxD => exact ldax_acBlind ..
  | staxB | staxD => exact stax_acBlind ..
  | lxiB | lxiD | lxiH | lxiSp => exact lxi_acBlind ..
  | addB | addC | addD | addE | addH | addL | addA | addM | adi => exact addSrc_acBlind ..
  | adcB | adcC | adcD | adcE | adcH | adcL | adcA | adcM | aci => exact adcSrc_acBlind ..
  | subB | subC | subD | subE | subH | subL | subA | subM | sui => exact subSrc_acBlind ..
  | sbbB | sbbC | sbbD | sbbE | sbbH | sbbL | sbbA | sbbM | sbi => exact sbbSrc_acBlind ..
  | anaB | anaC | anaD | anaE | anaH | anaL | anaA | anaM | ani => exact anaSrc_acBlind ..
  | xraB | xraC | xraD | xraE | xraH | xraL | xraA | xraM | xri => exact xraSrc_acBlind ..
  | oraB | oraC | oraD | oraE | oraH | oraL | oraA | oraM | ori => exact oraSrc_acBlind ..
  | cmpB | cmpC | cmpD | cmpE | cmpH | cmpL | cmpA | cmpM | cpi => exact cmpSrc_acBlind ..
  | rlc => exact rotateAcc_acBlind _ fun a _ => rotateLeft a
  | rrc => exact rotateAcc_acBlind _ fun a _ => rotateRight a
  | ral => exact rotateAcc_acBlind _ rotateLeftCarry
  | rar => exact rotateAcc_acBlind _ rotateRightCarry
  | cma => exact complementAcc_acBlind ..
  | nop => exact noOperation_acBlind ..
  | pushB => exact pushPair_acBlind _ .bc
  | pushD => exact pushPair_acBlind _ .de
  | pushH => exact pushPair_acBlind _ .hl
  | pushPsw => exact absurd rfl hpush
  | popB | popD | popH => exact popPair_acBlind ..
  | popPsw => exact popPsw_acBlind ..
  | jmp => exact jumpTo_acBlind ..
  | jnz | jz | jnc | jc | jpo | jpe | jp | jm => exact jumpIf_acBlind ..
  | call | rst0 | rst1 | rst2 | rst3 | rst4 | rst5 | rst6 | rst7 => exact callTo_acBlind ..
  | ret => exact returnFrom_acBlind ..
  | mviB | mviC | mviD | mviE | mviH | mviL | mviA => exact mviReg_acBlind ..
  | mviM => exact mviMem_acBlind ..
  | lda => exact loadDirect_acBlind ..
  | sta => exact storeDirect_acBlind ..
  | lhld => exact loadPairDirect_acBlind ..
  | shld => exact storePairDirect_acBlind ..
  | xchg => exact exchangePairs_acBlind ..
  | xthl => exact exchangeTop_acBlind ..
  | inrB | inrC | inrD | inrE | inrH | inrL | inrA => exact inrReg_acBlind ..
  | inrM => exact inrMem_acBlind ..
  | dcrB | dcrC | dcrD | dcrE | dcrH | dcrL | dcrA => exact dcrReg_acBlind ..
  | dcrM => exact dcrMem_acBlind ..
  | inxB | inxD | inxH | inxSp => exact inxPair_acBlind ..
  | dcxB | dcxD | dcxH | dcxSp => exact dcxPair_acBlind ..
  | dadB | dadD | dadH | dadSp => exact dadPair_acBlind ..
  | daa => exact absurd rfl hdaa
  | stc => exact setCarry_acBlind ..
  | cmc => exact complementCarry_acBlind ..
  | sphl => exact loadSp_acBlind ..
  | cnz | cz | cnc | cc | cpo | cpe | cp | cm => exact callIf_acBlind ..
  | rnz | rz | rnc | rc | rpo | rpe | rp | rm => exact returnIf_acBlind ..
  | pchl => exact jumpPair_acBlind ..
  | hlt | inPort | outPort | di | ei | undoc08 | undoc10 | undoc18 | undoc20 | undoc28 | undoc30 | undoc38
  | undocCB | undocD9 | undocDD | undocED | undocFD => exact noHandler_acBlind ..

/-- Settles O26: the two runs side by side. -/
theorem auxiliaryCarryIsReadOnlyByPushPswAndDaa : Obligations.AuxiliaryCarryIsReadOnlyByPushPswAndDaa := by
  intro i s t ac hpush hdaa h
  obtain ⟨u, t', hu, ht', ac', rfl⟩ := (exec_acBlind hpush hdaa).of_withAc s ac
  obtain rfl : t = u := Host.Outcome.next.inj (h.symm.trans hu)
  exact ⟨t.withAc ac', ht', rfl⟩

end Sys2Proof.Machine
end

section
/-! PROOF. Which addresses an instruction tests and which it stores to (R51 to R58). `Checks` follows an operation that
tests addresses in order and raises at the first that is out of bounds; `exec_accesses` gives every instruction its
footprint. What no instruction writes follows, and, with 64 KiB of Memory, which instructions can raise. -/

namespace Sys2Proof.Machine

open Spec

/-! ## What is tested and what is stored -/

/-- `x` tests these addresses in order: it raises at the first one that is out of bounds, and when none is, what it gives
satisfies `P` (R53). -/
inductive Checks {α : Type} (s : State) (P : α → Prop) : List Int → Except Raise α → Prop
  | done {a : α} : P a → Checks s P [] (.ok a)
  | out {addr : Int} {rest : List Int} : ¬ s.inBounds addr → Checks s P (addr :: rest) (.error (.outOfBoundsAccess addr))
  | next {addr : Int} {rest : List Int} {x : Except Raise α} :
      s.inBounds addr → Checks s P rest x → Checks s P (addr :: rest) x

/-- `t` holds the bytes of `s` outside the addresses of `stores`, and `RS` is untouched. -/
structure State.StoresOnly (stores : List Int) (s t : State) : Prop where
  runState : t.runState = s.runState
  mem : ∀ a : Nat, (a : Int) ∉ stores → t.mem.read a = s.mem.read a

/-- The data accesses of one instruction (R51). -/
inductive Footprint where
  | none
  /-- One byte, at an address held in 16 bits. -/
  | byte (addr : Word)
  /-- Two bytes, the lower address held in 16 bits. -/
  | word (addr : Word)
  /-- The two bytes below SP, if the push is taken. -/
  | push (taken : Bool)
  /-- The two bytes from SP up, if the pop is taken. -/
  | top (taken : Bool)

/-- The addresses of a footprint, in the order in which they are tested (R57, R58, R130, R131). -/
def Footprint.tested (s : State) : Footprint → List Int
  | .none => []
  | .byte addr => [(addr.toNat : Int)]
  | .word addr => [(addr.toNat : Int), (addr.toNat : Int) + 1]
  | .push taken => if taken then [(s.sp.toNat : Int) - 1, (s.sp.toNat : Int) - 2] else []
  | .top taken => if taken then [(s.sp.toNat : Int), (s.sp.toNat : Int) + 1] else []

/-- Whether these are the two bytes of a push that is taken. -/
def Footprint.pushes : Footprint → Bool
  | .push taken => taken
  | _ => false

/-- Whether these are the two bytes at SP. -/
def Footprint.popsTop : Footprint → Bool
  | .top taken => taken
  | _ => false

/-- Whether the second byte lies past the 16-bit addresses (R53). -/
def Footprint.straddlesTop : Footprint → Bool
  | .word addr => addr == 0xFFFF#16
  | _ => false

/-- The footprint is of the kind the tables `pushes`, `popsTop` and `straddlesTop` give the instruction. -/
structure Footprint.Matches (fp : Footprint) (i : Instr) (s : State) : Prop where
  pushes : fp.pushes = Spec.pushes i s
  popsTop : fp.popsTop = Spec.popsTop i s
  straddlesTop : fp.straddlesTop = Spec.straddlesTop i

/-- The answer is the frame of a handler of `op` around a body that tests the addresses of `fp` and stores to those of
`stores` only (R114). -/
def Accesses (op : Byte) (s : State) (fp : Footprint) (stores : List Int) (answer : Answer) : Prop :=
  ∃ body, answer = runHandler op s body ∧ Checks s (fun k => s.StoresOnly stores k.state) (fp.tested s) body

/-! ## The rules of `State.StoresOnly` -/

namespace State.StoresOnly

variable {stores : List Int} {s t : State}

theorem refl (stores : List Int) (s : State) : s.StoresOnly stores s := ⟨rfl, fun _ _ => rfl⟩

/-- Writes outside Memory and `RS` do not count. -/
theorem of_fields {u : State} (h : s.StoresOnly stores t) (hmem : u.mem = t.mem) (hrun : u.runState = t.runState) :
    s.StoresOnly stores u where
  runState := hrun.trans h.runState
  mem := hmem ▸ h.mem

theorem setPair (h : s.StoresOnly stores t) (p : Pair) (v : Word) : s.StoresOnly stores (t.setPair p v) :=
  h.of_fields (State.setPair_mem t p v) (State.setPair_runState t p v)

/-- A write in bounds changes no byte but its own (R55). -/
theorem writeMem (h : s.StoresOnly stores t) {addr : Int} (v : Byte) (hb : s.inBounds addr) (haddr : addr ∈ stores) :
    s.StoresOnly stores { t with mem := t.mem.write addr.toNat v } where
  runState := h.runState
  mem a ha := by
    have hne : a ≠ addr.toNat := by
      rintro rfl
      rw [Int.toNat_of_nonneg hb.1] at ha
      exact ha haddr
    exact (Memory.read_write_other t.mem v hne).trans (h.mem a ha)

end State.StoresOnly

/-! ## The rules of `Checks` -/

namespace Checks

variable {α β : Type} {s : State} {P : α → Prop} {x : Except Raise α} {addrs : List Int}

theorem map {f : α → β} {Q : β → Prop} (h : Checks s P addrs x) (hf : ∀ a, P a → Q (f a)) :
    Checks s Q addrs (x.map f) := by
  induction h with
  | done ha => exact .done (hf _ ha)
  | out hb => exact .out hb
  | next hb _ ih => exact .next hb ih

theorem holds {a : α} (h : Checks s P addrs (.ok a)) : P a := by
  generalize hx : Except.ok a = x at h
  induction h with
  | done ha => exact Except.ok.inj hx ▸ ha
  | out _ => cases hx
  | next _ _ ih => exact ih hx

/-- An operation that has raised gives nothing, so its checks hold for every `Q`. -/
theorem of_error {r : Raise} {Q : β → Prop} (h : Checks s P addrs (.error r)) :
    Checks s Q addrs (.error r : Except Raise β) := by
  generalize hx : Except.error r = x at h
  induction h with
  | done _ => cases hx
  | out hb =>
    cases hx
    exact .out hb
  | next hb _ ih => exact .next hb (ih hx)

/-- With every address in bounds nothing is raised. -/
theorem succeeds (h : Checks s P addrs x) (hin : ∀ addr ∈ addrs, s.inBounds addr) : ∃ a, x = .ok a := by
  induction h with
  | done _ => exact ⟨_, rfl⟩
  | out hb => exact absurd (hin _ List.mem_cons_self) hb
  | next _ _ ih => exact ih fun addr haddr => hin addr (List.mem_cons_of_mem _ haddr)

/-- The first address out of bounds is the one that is raised. -/
theorem raises {addr : Int} {rest : List Int} (h : Checks s P (addr :: rest) x) (hout : ¬ s.inBounds addr) :
    x = .error (.outOfBoundsAccess addr) := by
  cases h with
  | out _ => rfl
  | next hb _ => exact absurd hb hout

theorem tail {addr : Int} {rest : List Int} (h : Checks s P (addr :: rest) x) (hin : s.inBounds addr) :
    Checks s P rest x := by
  cases h with
  | out hb => exact absurd hin hb
  | next _ hrest => exact hrest

end Checks

/-! ## The shared operations on Memory -/

section Rules

open State.StoresOnly (refl)

variable (s : State) (addr : Int)

theorem memRead_checks : Checks s (fun _ => True) [addr] (memRead s addr) := by
  by_cases hb : s.inBounds addr
  · rw [memRead_ok hb]
    exact .next hb (.done trivial)
  · rw [memRead_raises hb]
    exact .out hb

theorem memRead16_checks : Checks s (fun _ => True) [addr, addr + 1] (memRead16 s addr) := by
  by_cases h₀ : s.inBounds addr
  · by_cases h₁ : s.inBounds (addr + 1)
    · rw [memRead16_ok h₀ h₁]
      exact .next h₀ (.next h₁ (.done trivial))
    · rw [memRead16_raises_high h₀ h₁]
      exact .next h₀ (.out h₁)
  · rw [memRead16_raises_low h₀]
    exact .out h₀

theorem memWrite_checks (v : Byte) : Checks s (s.StoresOnly [addr]) [addr] (memWrite s addr v) := by
  by_cases hb : s.inBounds addr
  · rw [memWrite_ok v hb]
    exact .next hb (.done ((refl _ s).writeMem v hb List.mem_cons_self))
  · rw [memWrite_raises v hb]
    exact .out hb

theorem memWrite16_checks (v : Word) :
    Checks s (s.StoresOnly [addr, addr + 1]) [addr, addr + 1] (memWrite16 s addr v) := by
  unfold memWrite16
  split_ifs with h₀ h₁
  · exact .next h₀ (.next h₁ (.done (((refl _ s).writeMem _ h₀ (by simp)).writeMem _ h₁ (by simp))))
  · exact .next h₀ (.out h₁)
  · exact .out h₀

theorem push16_checks (v : Word) :
    Checks s (s.StoresOnly [(s.sp.toNat : Int) - 1, (s.sp.toNat : Int) - 2])
      [(s.sp.toNat : Int) - 1, (s.sp.toNat : Int) - 2] (push16 s v) := by
  rcases push16_cases s v with ⟨h₁, h₂, h⟩ | ⟨h₁, h⟩ | ⟨h₁, h₂, h⟩ <;> rw [h]
  · exact .next h₁ (.next h₂ (.done
      ((((refl _ s).writeMem _ h₁ (by simp)).writeMem _ h₂ (by simp)).of_fields rfl rfl)))
  · exact .out h₁
  · exact .next h₁ (.out h₂)

/-- A pop is a read of the word at SP, with SP two higher (R131). -/
theorem pop16_eq_map : pop16 s = (memRead16 s s.sp.toNat).map fun v => (v, { s with sp := s.sp + 2#16 }) := by
  unfold pop16
  cases memRead16 s s.sp.toNat <;> rfl

theorem pop16_checks :
    Checks s (fun x => s.StoresOnly [] x.2) [(s.sp.toNat : Int), (s.sp.toNat : Int) + 1] (pop16 s) := by
  rw [pop16_eq_map]
  exact (memRead16_checks s s.sp.toNat).map fun _ _ => (refl [] s).of_fields rfl rfl

end Rules

/-! ## The shapes of a handler's body -/

section Shapes

open State.StoresOnly (refl)

section Bodies

variable {op : Byte} {s : State} {fp : Footprint} {stores : List Int}

theorem accesses_of_checks {body : Except Raise Handled}
    (h : Checks s (fun k => s.StoresOnly stores k.state) (fp.tested s) body) :
    Accesses op s fp stores (runHandler op s body) := ⟨body, rfl, h⟩

/-- A handler that touches neither Memory nor `RS`. -/
theorem accesses_stay {t : State} (hmem : t.mem = s.mem) (hrun : t.runState = s.runState) :
    Accesses op s .none [] (runHandler op s (.ok (.stay t))) :=
  accesses_of_checks (.done ((refl [] s).of_fields hmem hrun))

theorem accesses_goto (target : Word) : Accesses op s .none [] (runHandler op s (.ok (.goto s target))) :=
  accesses_of_checks (.done (refl [] s))

end Bodies

variable (op : Byte) (s : State)

theorem noHandler_accesses (h : opClass op = .p ∨ opClass op = .u) : Accesses op s .none [] (noHandler op s) :=
  ⟨.ok (.stay s), (runHandler_unhandled _ (not_handled_of_classPU h)).symm, .done (refl [] s)⟩

theorem jumpIf_accesses (cond : Cond) (a16 : Word) : Accesses op s .none [] (jumpIf op cond a16 s) := by
  unfold jumpIf
  split
  · exact accesses_goto a16
  · exact accesses_stay rfl rfl

/-- A read at an address in a pair or in the instruction. -/
theorem load_accesses (addr : Word) {f : Byte → State} (hf : ∀ v, s.StoresOnly [] (f v)) :
    Accesses op s (.byte addr) [] (runHandler op s ((memRead s addr.toNat).map fun v => .stay (f v))) :=
  accesses_of_checks ((memRead_checks s addr.toNat).map fun v _ => hf v)

theorem store_accesses (addr : Word) (v : Byte) :
    Accesses op s (.byte addr) [(addr.toNat : Int)] (runHandler op s ((memWrite s addr.toNat v).map .stay)) :=
  accesses_of_checks ((memWrite_checks s addr.toNat v).map fun _ ht => ht)

theorem inrMem_accesses : Accesses op s (.byte (s.pair .hl)) [s.addrM] (inrMem op s) := by
  refine accesses_of_checks ?_
  have hread := memRead_checks s s.addrM
  cases hx : memRead s s.addrM with
  | error r => exact (hx ▸ hread).of_error
  | ok v => exact (memWrite_checks s s.addrM _).map fun _ ht => ht.of_fields rfl rfl

theorem dcrMem_accesses : Accesses op s (.byte (s.pair .hl)) [s.addrM] (dcrMem op s) := by
  refine accesses_of_checks ?_
  have hread := memRead_checks s s.addrM
  cases hx : memRead s s.addrM with
  | error r => exact (hx ▸ hread).of_error
  | ok v => exact (memWrite_checks s s.addrM _).map fun _ ht => ht.of_fields rfl rfl

theorem loadPairDirect_accesses (a16 : Word) : Accesses op s (.word a16) [] (loadPairDirect op a16 s) :=
  accesses_of_checks ((memRead16_checks s a16.toNat).map fun v _ => (refl [] s).setPair .hl v)

theorem storePairDirect_accesses (a16 : Word) :
    Accesses op s (.word a16) ((Footprint.word a16).tested s) (storePairDirect op a16 s) :=
  accesses_of_checks ((memWrite16_checks s a16.toNat _).map fun _ ht => ht)

/-- XTHL writes the two bytes it has read, so the writes raise nothing new (R257). -/
theorem exchangeTop_accesses :
    Accesses op s (.top true) ((Footprint.top true).tested s) (exchangeTop op s) := by
  refine accesses_of_checks ?_
  have hread := memRead16_checks s s.sp.toNat
  cases hx : memRead16 s s.sp.toNat with
  | error r => exact (hx ▸ hread).of_error
  | ok v => exact (memWrite16_checks s s.sp.toNat _).map fun _ ht => ht.setPair .hl v

theorem pushWord_accesses (v : Word) :
    Accesses op s (.push true) ((Footprint.push true).tested s) (pushWord op v s) :=
  accesses_of_checks ((push16_checks s v).map fun _ ht => ht)

theorem callTo_accesses (target : Word) :
    Accesses op s (.push true) ((Footprint.push true).tested s) (callTo op target s) :=
  accesses_of_checks ((push16_checks s _).map fun _ ht => ht)

theorem callIf_accesses (cond : Cond) (a16 : Word) :
    Accesses op s (.push (condHolds cond s.flags)) ((Footprint.push (condHolds cond s.flags)).tested s)
      (callIf op cond a16 s) := by
  unfold callIf
  cases condHolds cond s.flags with
  | true => exact callTo_accesses op s a16
  | false => exact accesses_of_checks (body := .ok (.stay s)) (.done (refl [] s))

theorem popPair_accesses (p : Pair) : Accesses op s (.top true) [] (popPair op p s) :=
  accesses_of_checks ((pop16_checks s).map fun x hx => hx.setPair p x.1)

theorem popPsw_accesses : Accesses op s (.top true) [] (popPsw op s) :=
  accesses_of_checks ((pop16_checks s).map fun _ hx => hx.of_fields rfl rfl)

theorem returnFrom_accesses : Accesses op s (.top true) [] (returnFrom op s) :=
  accesses_of_checks ((pop16_checks s).map fun _ hx => hx)

theorem returnIf_accesses (cond : Cond) :
    Accesses op s (.top (condHolds cond s.flags)) [] (returnIf op cond s) := by
  unfold returnIf
  cases condHolds cond s.flags with
  | true => exact returnFrom_accesses op s
  | false => exact accesses_of_checks (body := .ok (.stay s)) (.done (refl [] s))

end Shapes

/-! ## Every instruction -/

/-- Every instruction tests the addresses of one footprint, of the kind the tables of the statements give it, and stores
to those `storedAt` gives it only. -/
theorem exec_accesses (i : Instr) (s : State) :
    ∃ fp : Footprint, Accesses i.opcode s fp (storedAt i s) (exec i s) ∧ fp.Matches i s := by
  unfold exec
  cases i with
  | movBB | movBC | movBD | movBE | movBH | movBL | movBA | movCB | movCC | movCD | movCE | movCH | movCL
  | movCA | movDB | movDC | movDD | movDE | movDH | movDL | movDA | movEB | movEC | movED | movEE | movEH
  | movEL | movEA | movHB | movHC | movHD | movHE | movHH | movHL | movHA | movLB | movLC | movLD | movLE
  | movLH | movLL | movLA | movAB | movAC | movAD | movAE | movAH | movAL | movAA
  | lxiB | lxiD | lxiH | lxiSp
  | addB | addC | addD | addE | addH | addL | addA | adi | adcB | adcC | adcD | adcE | adcH | adcL | adcA | aci
  | subB | subC | subD | subE | subH | subL | subA | sui | sbbB | sbbC | sbbD | sbbE | sbbH | sbbL | sbbA | sbi
  | anaB | anaC | anaD | anaE | anaH | anaL | anaA | ani | xraB | xraC | xraD | xraE | xraH | xraL | xraA | xri
  | oraB | oraC | oraD | oraE | oraH | oraL | oraA | ori | cmpB | cmpC | cmpD | cmpE | cmpH | cmpL | cmpA | cpi
  | rlc | rrc | ral | rar | cma | nop
  | mviB | mviC | mviD | mviE | mviH | mviL | mviA | xchg
  | inrB | inrC | inrD | inrE | inrH | inrL | inrA | dcrB | dcrC | dcrD | dcrE | dcrH | dcrL | dcrA
  | inxB | inxD | inxH | inxSp | dcxB | dcxD | dcxH | dcxSp | dadB | dadD | dadH | dadSp
  | daa | stc | cmc | sphl => refine ⟨.none, accesses_stay ?_ ?_, rfl, rfl, rfl⟩ <;> rfl
  | jmp | pchl => exact ⟨.none, accesses_goto _, rfl, rfl, rfl⟩
  | jnz | jz | jnc | jc | jpo | jpe | jp | jm => exact ⟨.none, jumpIf_accesses .., rfl, rfl, rfl⟩
  | movBM | movCM | movDM | movEM | movHM | movLM | movAM | addM | adcM | subM | sbbM | anaM | xraM | oraM
  | cmpM => exact ⟨.byte (s.pair .hl), load_accesses _ s (s.pair .hl) fun _ => ⟨rfl, fun _ _ => rfl⟩, rfl, rfl, rfl⟩
  | ldaxB => exact ⟨.byte (s.pair .bc), load_accesses _ s (s.pair .bc) fun _ => ⟨rfl, fun _ _ => rfl⟩, rfl, rfl, rfl⟩
  | ldaxD => exact ⟨.byte (s.pair .de), load_accesses _ s (s.pair .de) fun _ => ⟨rfl, fun _ _ => rfl⟩, rfl, rfl, rfl⟩
  | lda a16 => exact ⟨.byte a16, load_accesses _ s a16 fun _ => ⟨rfl, fun _ _ => rfl⟩, rfl, rfl, rfl⟩
  | movMB | movMC | movMD | movME | movMH | movML | movMA | mviM =>
    exact ⟨.byte (s.pair .hl), store_accesses _ s (s.pair .hl) _, rfl, rfl, rfl⟩
  | staxB => exact ⟨.byte (s.pair .bc), store_accesses _ s (s.pair .bc) _, rfl, rfl, rfl⟩
  | staxD => exact ⟨.byte (s.pair .de), store_accesses _ s (s.pair .de) _, rfl, rfl, rfl⟩
  | sta a16 => exact ⟨.byte a16, store_accesses _ s a16 _, rfl, rfl, rfl⟩
  | inrM => exact ⟨_, inrMem_accesses .., rfl, rfl, rfl⟩
  | dcrM => exact ⟨_, dcrMem_accesses .., rfl, rfl, rfl⟩
  | lhld => exact ⟨_, loadPairDirect_accesses .., rfl, rfl, rfl⟩
  | shld => exact ⟨_, storePairDirect_accesses .., rfl, rfl, rfl⟩
  | xthl => exact ⟨_, exchangeTop_accesses .., rfl, rfl, rfl⟩
  | pushB | pushD | pushH | pushPsw => exact ⟨_, pushWord_accesses .., rfl, rfl, rfl⟩
  | call | rst0 | rst1 | rst2 | rst3 | rst4 | rst5 | rst6 | rst7 => exact ⟨_, callTo_accesses .., rfl, rfl, rfl⟩
  | cnz | cz | cnc | cc | cpo | cpe | cp | cm => exact ⟨_, callIf_accesses .., rfl, rfl, rfl⟩
  | popB | popD | popH => exact ⟨_, popPair_accesses .., rfl, rfl, rfl⟩
  | popPsw => exact ⟨_, popPsw_accesses .., rfl, rfl, rfl⟩
  | ret => exact ⟨_, returnFrom_accesses .., rfl, rfl, rfl⟩
  | rnz | rz | rnc | rc | rpo | rpe | rp | rm => exact ⟨_, returnIf_accesses .., rfl, rfl, rfl⟩
  | hlt | inPort | outPort | di | ei => exact ⟨.none, noHandler_accesses _ s (.inl rfl), rfl, rfl, rfl⟩
  | undoc08 | undoc10 | undoc18 | undoc20 | undoc28 | undoc30 | undoc38 | undocCB | undocD9 | undocDD
  | undocED | undocFD => exact ⟨.none, noHandler_accesses _ s (.inr rfl), rfl, rfl, rfl⟩

/-- Settles O22: an instruction that raises leaves Memory alone, and any other stores to its addresses only. -/
theorem memoryChangesOnlyWhereStored : Obligations.MemoryChangesOnlyWhereStored := by
  intro i s t h a ha
  obtain ⟨fp, ⟨body, hbody, hchecks⟩, -⟩ := exec_accesses i s
  rw [hbody] at h
  rcases runHandler_cases h with ⟨-, rfl⟩ | ⟨-, r, -, rfl⟩ | ⟨-, k, npc, rfl, rfl⟩
  · rfl
  · rfl
  · exact hchecks.holds.mem a ha

/-! ## What is out of bounds with 64 KiB of Memory -/

/-- Only from 0xFFFF does the next address need more than 16 bits. -/
theorem succ_lt_of_ne_top {addr : Word} (h : addr ≠ 0xFFFF#16) : addr.toNat + 1 < 65536 := by bv_omega

theorem State.advance_runState_ne_error (t : State) (h : t.runState ≠ .error) (npc : Nat) :
    (t.advance npc).runState ≠ .error := by
  rw [State.advance_runState]
  split
  · exact nofun
  · exact h

section FullMemory

variable {α : Type} {s : State} {P : α → Prop} {x : Except Raise α} {fp : Footprint} (hsize : s.cfg.memSize = 65536)
include hsize

theorem State.inBounds_iff_of_fullMemory (addr : Int) : s.inBounds addr ↔ 0 ≤ addr ∧ addr < 65536 := by
  rw [State.inBounds, hsize]
  rfl

/-- With SP = 0 the first byte of a push is out of bounds, with SP = 1 the second, both at -1 (R342). -/
theorem Checks.raises_push (h : Checks s P (fp.tested s) x) (hpush : fp.pushes = true) (hsp : s.sp.toNat < 2) :
    x = .error (.outOfBoundsAccess (-1)) := by
  have hin := State.inBounds_iff_of_fullMemory hsize
  cases fp with
  | push taken =>
    obtain rfl : taken = true := hpush
    change Checks s P [(s.sp.toNat : Int) - 1, (s.sp.toNat : Int) - 2] x at h
    obtain hsp | hsp : s.sp.toNat = 0 ∨ s.sp.toNat = 1 := by omega
    all_goals rw [hsp] at h
    · exact h.raises (by simp [hin])
    · exact (h.tail (by simp [hin])).raises (by simp [hin])
  | _ => cases hpush

/-- The second byte of a word at 0xFFFF is out of bounds (R53). -/
theorem Checks.raises_word {addr : Word} (h : Checks s P [(addr.toNat : Int), (addr.toNat : Int) + 1] x)
    (haddr : addr = 0xFFFF#16) : x = .error (.outOfBoundsAccess 0x10000) := by
  have hin := State.inBounds_iff_of_fullMemory hsize
  subst haddr
  exact (h.tail (by simp [hin])).raises (by simp [hin])

theorem Checks.raises_top (h : Checks s P (fp.tested s) x)
    (htop : (fp.popsTop = true ∧ s.sp = 0xFFFF#16) ∨ fp.straddlesTop = true) :
    x = .error (.outOfBoundsAccess 0x10000) := by
  rcases htop with ⟨hpop, hsp⟩ | hword
  · cases fp with
    | top taken =>
      obtain rfl : taken = true := hpop
      exact Checks.raises_word hsize h hsp
    | _ => cases hpop
  · cases fp with
    | word addr => exact Checks.raises_word hsize h (beq_iff_eq.1 hword)
    | _ => cases hword

/-- Every other tested address is one of 16 bits (R53). -/
theorem Footprint.tested_inBounds (hpush : ¬ (fp.pushes = true ∧ s.sp.toNat < 2))
    (htop : ¬ ((fp.popsTop = true ∧ s.sp = 0xFFFF#16) ∨ fp.straddlesTop = true)) :
    ∀ addr ∈ fp.tested s, s.inBounds addr := by
  intro addr haddr
  rw [State.inBounds_iff_of_fullMemory hsize]
  have hsp := s.sp.isLt
  cases fp with
  | none => cases haddr
  | byte low =>
    have hlow := low.isLt
    have heq := List.mem_singleton.1 haddr
    omega
  | word low =>
    have hlow : low.toNat + 1 < 65536 := succ_lt_of_ne_top fun h => htop (.inr (beq_iff_eq.2 h))
    have heq := List.mem_pair.1 haddr
    omega
  | push taken =>
    cases taken with
    | false => cases haddr
    | true =>
      have hroom : ¬ s.sp.toNat < 2 := fun h => hpush ⟨rfl, h⟩
      have heq := List.mem_pair.1 haddr
      omega
  | top taken =>
    cases taken with
    | false => cases haddr
    | true =>
      have hroom := succ_lt_of_ne_top fun h => htop (.inl ⟨rfl, h⟩)
      have heq := List.mem_pair.1 haddr
      omega

end FullMemory

/-- Settles O19: the handler raises at the first tested address that is out of bounds, if there is one. -/
theorem outOfBoundsCasesAreTheseOnly : Obligations.OutOfBoundsCasesAreTheseOnly := by
  intro i s hsize hhandled hrun
  obtain ⟨fp, ⟨body, hbody, hchecks⟩, hpushes, hpops, hstraddles⟩ := exec_accesses i s
  rw [hbody, ← hpushes, ← hpops, ← hstraddles]
  refine ⟨fun ⟨hpush, hsp⟩ => ?_, fun htop => ?_, fun hpush htop => ?_⟩
  · rw [hchecks.raises_push hsize hpush hsp]
    exact runHandler_error _ hhandled
  · rw [hchecks.raises_top hsize htop]
    exact runHandler_error _ hhandled
  · obtain ⟨k, rfl⟩ := hchecks.succeeds (Footprint.tested_inBounds hsize hpush htop)
    have hk : k.state.runState ≠ .error := hchecks.holds.runState ▸ hrun
    obtain ⟨t, target⟩ := k
    cases target with
    | none => exact ⟨_, runHandler_stay t hhandled, t.advance_runState_ne_error hk _⟩
    | some target => exact ⟨_, runHandler_goto t target hhandled, t.advance_runState_ne_error hk _⟩

end Sys2Proof.Machine
end

section
/-! PROOF. The codec, in both directions. From an instruction, `encode_cases` gives its bytes and the map's cell that leads
back to it, constructor by constructor; from an opcode byte, `encode_instrOf` gives the bytes of its cell, row by row of the
map (R87). `decode_cases` joins the two. The census of R95 counts the listed bytes of classes P, U and X, and class F
as what the lists leave. -/

namespace Sys2Proof

/-! ## The decoder, by the number of operand bytes (R81, R85) -/

theorem decode_of_operandLength_zero {op : Byte} (h : operandLength op = 0) (rest : List Byte) :
    decode (op :: rest) = .ok (instrOf op 0#8 0#8, rest) := by
  simp only [decode, h]

theorem decode_of_operandLength_one {op : Byte} (h : operandLength op = 1) (b1 : Byte) (rest : List Byte) :
    decode (op :: b1 :: rest) = .ok (instrOf op b1 0#8, rest) := by
  simp only [decode, h]

theorem decode_of_operandLength_two {op : Byte} (h : operandLength op = 2) (b1 b2 : Byte) (rest : List Byte) :
    decode (op :: b1 :: b2 :: rest) = .ok (instrOf op b1 b2, rest) := by
  simp only [decode, h]

/-- A list with an opcode byte is refused exactly when operand bytes are missing (R98). -/
theorem decode_cons_eq_error_iff (op : Byte) (bytes : List Byte) (e : DecodeError) :
    decode (op :: bytes) = .error e ↔ bytes.length < operandLength op ∧ e = .missingOperand op := by
  obtain ⟨h, hdec⟩ | ⟨b1, rest, h, rfl, hdec⟩ | ⟨b1, b2, rest, h, rfl, hdec⟩ | ⟨h, hdec⟩ := decode_cases op bytes
  · simp [hdec, h]
  · simp [hdec, h]
  · simp [hdec, h]
  · simp [hdec, h, eq_comm]

/-! ## From an instruction to its bytes -/

/-- The bytes of an instruction are an opcode byte and the operand bytes R85 gives that byte, and the map's cell for them
is the instruction again. -/
theorem encode_cases (i : Instr) :
    (∃ op, encode i = [op] ∧ operandLength op = 0 ∧ instrOf op 0#8 0#8 = i) ∨
      (∃ op d8, encode i = [op, d8] ∧ operandLength op = 1 ∧ instrOf op d8 0#8 = i) ∨
      (∃ op d16, encode i = [op, lowByte d16, highByte d16] ∧ operandLength op = 2 ∧
        instrOf op (lowByte d16) (highByte d16) = i) := by
  cases i with
  | lxiB w | lxiD w | lxiH w | lxiSp w | lda w | sta w | lhld w | shld w | jmp w | jnz w | jz w | jnc w | jc w | jpo w
  | jpe w | jp w | jm w | call w | cnz w | cz w | cnc w | cc w | cpo w | cpe w | cp w | cm w =>
    refine .inr (.inr ⟨_, w, rfl, rfl, ?_⟩)
    rw [instrOf, wordOf_bytes]
    rfl
  | mviB d8 | mviC d8 | mviD d8 | mviE d8 | mviH d8 | mviL d8 | mviA d8 | mviM d8 | adi d8 | aci d8 | sui d8 | sbi d8
  | ani d8 | xri d8 | ori d8 | cpi d8 =>
    exact .inr (.inl ⟨_, d8, rfl, rfl, rfl⟩)
  | _ => exact .inl ⟨_, rfl, rfl, rfl⟩

/-- Settles O1: the bytes of `encode_cases` are as many as the decoder asks for, and it reads the cell that is `i`. -/
theorem decodeOfEncodeIsTheInstruction : Obligations.DecodeOfEncodeIsTheInstruction := by
  intro i rest
  obtain ⟨op, henc, hlen, rfl⟩ | ⟨op, d8, henc, hlen, rfl⟩ | ⟨op, d16, henc, hlen, rfl⟩ := encode_cases i
  · rw [henc]
    exact decode_of_operandLength_zero hlen rest
  · rw [henc]
    exact decode_of_operandLength_one hlen d8 rest
  · rw [henc]
    exact decode_of_operandLength_two hlen (lowByte d16) (highByte d16) rest

/-! ## From an opcode byte to the bytes of its cell -/

/-- `encode_instrOf` for the two bytes of a word, where both sides compute, cell by cell. -/
theorem encode_instrOf_bytes (op : Byte) (w : Word) :
    encode (instrOf op (lowByte w) (highByte w)) = op :: [lowByte w, highByte w].take (operandLength op) := by
  rw [instrOf, wordOf_bytes]
  obtain ⟨n⟩ := op
  fin_cases n <;> rfl

/-- The cell of an opcode byte and its operand bytes is encoded as that byte and those of the operand bytes that R85 gives
it. -/
theorem encode_instrOf (op b1 b2 : Byte) :
    encode (instrOf op b1 b2) = op :: [b1, b2].take (operandLength op) := by
  simpa using encode_instrOf_bytes op (wordOf b2 b1)

/-- What the decoder reads is the cell of the first byte, and the operand bytes R85 gives that byte are off the list. -/
theorem decode_cons_eq_ok {op : Byte} {bytes rest : List Byte} {i : Instr} (h : decode (op :: bytes) = .ok (i, rest)) :
    ∃ b1 b2, i = instrOf op b1 b2 ∧ bytes = [b1, b2].take (operandLength op) ++ rest := by
  obtain ⟨hlen, hdec⟩ | ⟨b1, tail, hlen, rfl, hdec⟩ | ⟨b1, b2, tail, hlen, rfl, hdec⟩ | ⟨-, hdec⟩ :=
    decode_cases op bytes
  all_goals
    rw [hdec] at h
    cases h
  · exact ⟨0#8, 0#8, rfl, by rw [hlen]; rfl⟩
  · exact ⟨b1, 0#8, rfl, by rw [hlen]; rfl⟩
  · exact ⟨b1, b2, rfl, by rw [hlen]; rfl⟩

/-- Settles O2: what `decode_cons_eq_ok` takes off the list is what `encode_instrOf` writes. -/
theorem encodeOfDecodeIsTheBytes : Obligations.EncodeOfDecodeIsTheBytes := by
  intro bytes rest i h
  cases bytes with
  | nil => cases h
  | cons op bytes =>
    obtain ⟨b1, b2, rfl, rfl⟩ := decode_cons_eq_ok h
    rw [encode_instrOf]
    rfl

/-- Settles O3: the empty list by definition, every other by `decode_cons_eq_error_iff`. -/
theorem decodeRefusesOnlyShortInput : Obligations.DecodeRefusesOnlyShortInput := by
  intro bytes e
  cases bytes with
  | nil => simp [decode, eq_comm]
  | cons op bytes => simp [decode_cons_eq_error_iff]

/-! ## The census of the classes (R95, R9) -/

/-- The bytes outside class F, in the order in which `opClass` looks for them. -/
def listedBytes : List Byte := classPBytes ++ classUBytes ++ (classXLowBytes ++ classXHighBytes)

theorem listedBytes_nodup : listedBytes.Nodup := by decide

theorem opClass_eq_p_iff (op : Byte) : opClass op = .p ↔ op ∈ classPBytes := by
  unfold opClass
  split_ifs <;> simp_all

theorem opClass_eq_u_iff (op : Byte) : opClass op = .u ↔ op ∈ classUBytes := by
  have hdisj : op ∈ classPBytes → op ∉ classUBytes := fun hp hu =>
    List.disjoint_of_nodup_append listedBytes_nodup.of_append_left hp hu
  unfold opClass
  split_ifs <;> simp_all

theorem opClass_eq_x_iff (op : Byte) : opClass op = .x ↔ op ∈ classXLowBytes ++ classXHighBytes := by
  have hdisj : op ∈ classPBytes ++ classUBytes → op ∉ classXLowBytes ++ classXHighBytes := fun hpu hx =>
    List.disjoint_of_nodup_append listedBytes_nodup hpu hx
  unfold opClass
  split_ifs <;> simp_all

theorem opClass_eq_f_iff (op : Byte) : opClass op = .f ↔ op ∉ listedBytes := by
  unfold opClass listedBytes
  split_ifs <;> simp_all

theorem handled_full_iff (op : Byte) : handled .full op = true ↔ op ∉ classPBytes ++ classUBytes := by
  rw [List.mem_append, ← opClass_eq_p_iff, ← opClass_eq_u_iff, handled]
  cases opClass op <;> simp

theorem handled_documented_iff (op : Byte) : handled .documented op = true ↔ opClass op = .f := by
  rw [handled]
  cases opClass op <;> simp

/-- A list of distinct bytes has as many byte values as entries. -/
theorem card_filter_mem {l : List Byte} (h : l.Nodup) :
    (Finset.univ.filter fun op : Fin 256 => BitVec.ofFin op ∈ l).card = l.length := by
  rw [← List.toFinset_card_of_nodup h]
  refine Finset.card_bij (fun op _ => BitVec.ofFin op) (by simp) (fun a _ b _ hab => by simpa using hab) fun b hb => ?_
  exact ⟨b.toFin, by simpa using hb, rfl⟩

/-- A list of distinct bytes leaves the rest of the 256 byte values. -/
theorem card_filter_not_mem {l : List Byte} (h : l.Nodup) :
    (Finset.univ.filter fun op : Fin 256 => BitVec.ofFin op ∉ l).card = 256 - l.length := by
  have hsum := Finset.card_filter_add_card_filter_not (s := .univ) fun op : Fin 256 => BitVec.ofFin op ∈ l
  rw [card_filter_mem h, Finset.card_univ, Fintype.card_fin] at hsum
  omega

/-- Settles O4: classes P, U and X are counted by their lists, class F and the handled bytes by what the lists leave. -/
theorem opcodeClassesHaveTheirSizes : Obligations.OpcodeClassesHaveTheirSizes := by
  have hpu : (classPBytes ++ classUBytes).Nodup := listedBytes_nodup.of_append_left
  unfold Obligations.OpcodeClassesHaveTheirSizes
  simp only [handled_documented_iff, handled_full_iff, opClass_eq_f_iff, opClass_eq_x_iff, opClass_eq_p_iff,
    opClass_eq_u_iff]
  exact ⟨card_filter_not_mem listedBytes_nodup, card_filter_mem listedBytes_nodup.of_append_right,
    card_filter_mem hpu.of_append_left, card_filter_mem hpu.of_append_right,
    card_filter_not_mem hpu, card_filter_not_mem listedBytes_nodup⟩

/-! ## Written words -/

/-- Settles O5: the decoder computes each of the fourteen words (R87, R100). -/
theorem writtenWordsDecode : Obligations.WrittenWordsDecode :=
  ⟨rfl, rfl, rfl, rfl, rfl, rfl, rfl, rfl, rfl, rfl, rfl, rfl, rfl, rfl⟩

end Sys2Proof
end

section
/-! PROOF. Parity, the adder and the subtractor (R121, R124, R125). The auxiliary carry of both is a carry into bit 4: the
adder's of the sum itself, the subtractor's of the sum `r + b + bin` that gives `a` back. -/

namespace Sys2Proof.Machine

open Spec

theorem bit_eq_toNat (b : Bool) : bit b = b.toNat := by cases b <;> rfl

theorem bit_le_one (b : Bool) : bit b ≤ 1 := bit_eq_toNat b ▸ b.toNat_le

theorem bit_decide (p : Prop) [Decidable p] : bit (decide p) = if p then 1 else 0 := by simp [bit]

/-! ## Parity -/

/-- The model counts over the list of bit numbers, the statement over the bit numbers themselves. -/
theorem popcount_eq_bitCount (r : Byte) : popcount r = bitCount r := by
  simp only [popcount, bitCount, Finset.card_filter, Fin.sum_univ_eight, List.range_succ, List.range_zero,
    List.countP_append, List.countP_singleton, List.nil_append]
  rfl

/-- Settles O6: both count the same bits. -/
theorem parityIsEvenBitCount : Obligations.ParityIsEvenBitCount := by
  intro r
  rw [parity8, popcount_eq_bitCount, beq_iff_eq, Nat.even_iff]

/-! ## The carry into bit 4 -/

/-- The bit of a sum that its two operands do not account for is the carry into it, here into bit 4. -/
theorem getLsbD_four_xor_add (a b : Byte) (cin : Bool) :
    (a ^^^ b ^^^ (a + b + BitVec.ofNat 8 cin.toNat)).getLsbD 4 =
      decide (0x0F < a.toNat % 16 + b.toNat % 16 + bit cin) := by
  have hcin : BitVec.ofNat 8 cin.toNat = (BitVec.ofBool cin).setWidth 8 := by cases cin <;> rfl
  rw [hcin, BitVec.getLsbD_xor, BitVec.getLsbD_xor, BitVec.getLsbD_add_add_bool (by decide), BitVec.carry, bit_eq_toNat,
    ← Bool.xor_assoc, ← Bool.xor_assoc]
  cases a.getLsbD 4 <;> cases b.getLsbD 4 <;> simp [Nat.lt_iff_add_one_le]

/-! ## The adder -/

/-- The byte and the carry of the adder are the nine bits of the sum (R124). -/
theorem add8_sum (a b : Byte) (cin : Bool) :
    (add8 a b cin).r.toNat + 256 * bit (add8 a b cin).cy = a.toNat + b.toNat + bit cin := by
  have ha := a.isLt
  have hb := b.isLt
  have hcin := bit_le_one cin
  simp only [add8, BitVec.toNat_ofNat, bit_decide, ← bit_eq_toNat]
  split <;> omega

theorem add8_ac (a b : Byte) (cin : Bool) :
    (add8 a b cin).ac = decide (0x0F < a.toNat % 16 + b.toNat % 16 + bit cin) := by
  rw [bit_eq_toNat]
  rfl

/-- Settles O7: the nine-bit sum, and the carry into bit 4 read off the sum. -/
theorem adderGivesSumAndCarries : Obligations.AdderGivesSumAndCarries := by
  intro a b cin
  refine ⟨add8_sum a b cin, ?_, ?_⟩
  · rw [add8_ac, decide_eq_true_iff]
  · rw [add8_r, getLsbD_four_xor_add, add8_ac]

/-! ## The subtractor -/

theorem sub8_cy (a b : Byte) (bin : Bool) : (sub8 a b bin).cy = decide (a.toNat < b.toNat + bit bin) := by
  rw [bit_eq_toNat]
  rfl

theorem sub8_ac (a b : Byte) (bin : Bool) :
    (sub8 a b bin).ac = decide (a.toNat % 16 < b.toNat % 16 + bit bin) := by
  rw [bit_eq_toNat]
  rfl

/-- The byte and the borrow of the subtractor balance the difference (R125, D20). -/
theorem sub8_balance (a b : Byte) (bin : Bool) :
    (sub8 a b bin).r.toNat + b.toNat + bit bin = a.toNat + 256 * bit (sub8 a b bin).cy := by
  have ha := a.isLt
  have hb := b.isLt
  have hbin := bit_le_one bin
  rw [sub8_cy, bit_decide]
  simp only [sub8, BitVec.toNat_ofInt, ← bit_eq_toNat]
  split <;> omega

/-- Adding the subtrahend and the borrow back gives `a`. -/
theorem sub8_r_add (a b : Byte) (bin : Bool) : (sub8 a b bin).r + b + BitVec.ofNat 8 bin.toNat = a := by
  rw [sub8_r]
  abel

/-- A borrow out of the low nibble is a carry into bit 4 when the difference is added back. -/
theorem sub8_ac_eq_carry (a b : Byte) (bin : Bool) :
    (sub8 a b bin).ac = decide (0x0F < (sub8 a b bin).r.toNat % 16 + b.toNat % 16 + bit bin) := by
  have hbalance := sub8_balance a b bin
  have hbin := bit_le_one bin
  rw [sub8_ac, decide_eq_decide]
  omega

/-- Settles O8: the balance, and the borrow of the low nibble as the carry of the sum that gives `a` back. -/
theorem subtractorGivesDifferenceAndBorrows : Obligations.SubtractorGivesDifferenceAndBorrows := by
  intro a b bin
  refine ⟨sub8_balance a b bin, ?_, ?_, ?_⟩
  · rw [sub8_cy, decide_eq_true_iff]
  · rw [sub8_ac, decide_eq_true_iff]
  · have hcarry := getLsbD_four_xor_add (sub8 a b bin).r b bin
    rw [sub8_r_add, ← sub8_ac_eq_carry] at hcarry
    rw [← hcarry]
    ac_rfl

end Sys2Proof.Machine
end

section
/-! PROOF. The step (R110 to R118). `fetch` and its operand bytes are given by what the reads answer, `step` by what
`fetch` answers; and the bytes the statement decodes are those the fetch reads. -/

namespace Sys2Proof.Machine

open Spec

/-! ## The fetch of the operand bytes, by their number (R112) -/

theorem fetchOperands_zero {op : Byte} (h : operandLength op = 0) (s : State) :
    fetchOperands s op = .ok (0#8, 0#8) := by
  simp only [fetchOperands, h]

theorem fetchOperands_one {op : Byte} (h : operandLength op = 1) (s : State) :
    fetchOperands s op = (memRead s ((s.pc.toNat : Int) + 1)).map fun b1 => (b1, 0#8) := by
  simp only [fetchOperands, h]

theorem fetchOperands_two {op : Byte} {s : State} {b1 : Byte} (h : operandLength op = 2)
    (h₁ : memRead s ((s.pc.toNat : Int) + 1) = .ok b1) :
    fetchOperands s op = (memRead s ((s.pc.toNat : Int) + 2)).map fun b2 => (b1, b2) := by
  simp only [fetchOperands, h, h₁]

theorem fetchOperands_two_raises {op : Byte} {s : State} {r : Raise} (h : operandLength op = 2)
    (h₁ : memRead s ((s.pc.toNat : Int) + 1) = .error r) : fetchOperands s op = .error r := by
  simp only [fetchOperands, h, h₁]

/-- Operand bytes that do not fit: the first address out of bounds is `MEM_SIZE` (R53). -/
theorem fetchOperands_past_end {op : Byte} {s : State} (hpc : s.pc.toNat < s.cfg.memSize)
    (hend : s.cfg.memSize ≤ s.pc.toNat + operandLength op) :
    fetchOperands s op = .error (.outOfBoundsAccess s.cfg.memSize) := by
  have hout : memRead s (s.cfg.memSize : Int) = .error (.outOfBoundsAccess s.cfg.memSize) :=
    memRead_raises fun h => (Nat.lt_irrefl _ ((s.inBounds_nat _).1 h))
  have hle := operandLength_le_two op
  obtain hlen | hlen | hlen : operandLength op = 0 ∨ operandLength op = 1 ∨ operandLength op = 2 := by omega
  · omega
  · have haddr : (s.pc.toNat : Int) + 1 = s.cfg.memSize := by omega
    rw [fetchOperands_one hlen, haddr, hout]
    rfl
  · by_cases hfirst : s.pc.toNat + 1 < s.cfg.memSize
    · have haddr : (s.pc.toNat : Int) + 2 = s.cfg.memSize := by omega
      rw [fetchOperands_two hlen (memRead_ok ((s.inBounds_nat _).2 hfirst)), haddr, hout]
      rfl
    · have haddr : (s.pc.toNat : Int) + 1 = s.cfg.memSize := by omega
      exact fetchOperands_two_raises hlen (haddr ▸ hout)

/-! ## What `fetch` answers for the opcode byte at PC (R111, R112) -/

section Fetch

variable {s : State} {op : Byte} (hread : memRead s s.pc.toNat = .ok op)

include hread

theorem fetch_not_handled (hh : handled s.cfg.handlers op = false) : fetch s = .raised op .unimplementedOpcode := by
  simp [fetch, hread, hh]

theorem fetch_operands_raise {r : Raise} (hh : handled s.cfg.handlers op = true)
    (hops : fetchOperands s op = .error r) : fetch s = .raised op r := by
  simp [fetch, hread, hh, hops]

theorem fetch_decoded {b1 b2 : Byte} (hh : handled s.cfg.handlers op = true)
    (hops : fetchOperands s op = .ok (b1, b2)) : fetch s = .decoded (instrOf op b1 b2) := by
  simp [fetch, hread, hh, hops]

end Fetch

theorem memRead_pc {s : State} (hpc : s.pc.toNat < s.cfg.memSize) :
    memRead s s.pc.toNat = .ok (s.mem.read s.pc.toNat) :=
  memRead_ok ((s.inBounds_nat _).2 hpc)

/-! ## What `step` answers (R110, R117, R118) -/

theorem step_raised {s : State} {op : Byte} {r : Raise} (hrun : s.runState = .running) (hfetch : fetch s = .raised op r) :
    step s = .next (s.raise op r) := by
  simp only [step, hrun, hfetch]

theorem step_decoded {s : State} {i : Instr} (hrun : s.runState = .running) (hfetch : fetch s = .decoded i) :
    step s = exec i s := by
  simp only [step, hrun, hfetch]

/-- Settles O13: a step that answers a next state started from RUNNING. -/
theorem terminalStatesHaveNoStep : Obligations.TerminalStatesHaveNoStep := by
  intro s t hterminal hstep
  obtain ⟨hrun, -⟩ := step_cases hstep
  simp [hrun] at hterminal

/-- Settles O11: the handler lookup comes before the operand bytes. -/
theorem unhandledOpcodeIsFatal : Obligations.UnhandledOpcodeIsFatal := by
  intro s hrun hpc hh
  exact step_raised hrun (fetch_not_handled (memRead_pc hpc) hh)

/-- Settles O12: DECODE raises at `MEM_SIZE`, before the handler runs. -/
theorem operandFetchOutOfBoundsIsFatal : Obligations.OperandFetchOutOfBoundsIsFatal := by
  rintro _ s hrun hh hpc rfl hend
  exact step_raised hrun (fetch_operands_raise (memRead_pc hpc) hh (fetchOperands_past_end hpc hend))

/-! ## A step runs the instruction the bytes at PC decode to -/

/-- The bytes at PC are what MemRead gives from PC on. -/
theorem memRead_of_bytesAtPc {s : State} {k : Nat} {v : Byte} (h : (bytesAtPc s)[k]? = some v) :
    memRead s ((s.pc.toNat : Int) + k) = .ok v := by
  have hfilter : ((List.range 3).filter fun k => s.pc.toNat + k < s.cfg.memSize) =
      List.range (min 3 (s.cfg.memSize - s.pc.toNat)) := by
    rw [← List.Ico.zero_bot, ← List.Ico.zero_bot, ← List.Ico.filter_lt]
    simp only [Nat.lt_sub_iff_add_lt']
  rw [bytesAtPc, hfilter, List.getElem?_map, Option.map_eq_some_iff] at h
  obtain ⟨j, hj, rfl⟩ := h
  obtain ⟨hlt, rfl⟩ := List.getElem?_eq_some_iff.1 hj
  rw [List.length_range] at hlt
  have hb : s.pc.toNat + k < s.cfg.memSize := by omega
  rw [List.getElem_range]
  exact memRead_ok ((s.inBounds_nat _).2 hb)

/-- Bytes at PC that decode are in Memory, and the fetch reads the operand bytes the decoder has read (R81, R112). -/
theorem fetchOperands_of_decode {s : State} {op : Byte} {bytes rest : List Byte} {i : Instr}
    (hbytes : bytesAtPc s = op :: bytes) (hdec : decode (op :: bytes) = .ok (i, rest)) :
    ∃ b1 b2, fetchOperands s op = .ok (b1, b2) ∧ i = instrOf op b1 b2 := by
  have hread (k : Nat) (v : Byte) (h : (op :: bytes)[k]? = some v) : memRead s ((s.pc.toNat : Int) + k) = .ok v :=
    memRead_of_bytesAtPc (hbytes ▸ h)
  obtain ⟨hlen, hdec'⟩ | ⟨b1, tail, hlen, rfl, hdec'⟩ | ⟨b1, b2, tail, hlen, rfl, hdec'⟩ | ⟨-, hdec'⟩ :=
    decode_cases op bytes
  all_goals
    rw [hdec'] at hdec
    cases hdec
  · exact ⟨0#8, 0#8, fetchOperands_zero hlen s, rfl⟩
  · refine ⟨b1, 0#8, ?_, rfl⟩
    rw [fetchOperands_one hlen]
    exact congrArg _ (hread 1 b1 rfl)
  · refine ⟨b1, b2, ?_, rfl⟩
    rw [fetchOperands_two hlen (hread 1 b1 rfl)]
    exact congrArg _ (hread 2 b2 rfl)

/-- An instruction whose opcode byte has no handler raises as DECODE does (R96, R341). -/
theorem exec_not_handled {i : Instr} {s : State} (h : handled s.cfg.handlers i.opcode = false) :
    exec i s = .next (s.raise i.opcode .unimplementedOpcode) := by
  obtain ⟨body, hbody, -⟩ := exec_framed i s
  rw [hbody, runHandler_unhandled body h]

/-- Settles O10: with a handler the fetch decodes the same bytes; without one the step and `exec` raise the same. -/
theorem stepRunsTheDecodedInstruction : Obligations.StepRunsTheDecodedInstruction := by
  intro s i rest hrun _ hdec
  cases hbytes : bytesAtPc s with
  | nil =>
    rw [hbytes] at hdec
    cases hdec
  | cons op bytes =>
    rw [hbytes] at hdec
    have hread : memRead s s.pc.toNat = .ok op := by
      simpa using memRead_of_bytesAtPc (s := s) (k := 0) (v := op) (by rw [hbytes]; rfl)
    obtain ⟨b1, b2, hops, rfl⟩ := fetchOperands_of_decode hbytes hdec
    cases hh : handled s.cfg.handlers op with
    | false =>
      have hexec := exec_not_handled (i := instrOf op b1 b2) (by rwa [instrOf_opcode])
      rw [hexec, step_raised hrun (fetch_not_handled hread hh), instrOf_opcode]
    | true => exact step_decoded hrun (fetch_decoded hread hh hops)

/-! ## Every running core takes a step -/

/-- A running core fetches from Memory: PC is below `PROGRAM_END`, which is at most `MEM_SIZE` (R8, R111). -/
theorem State.Inv.pc_inBounds {s : State} (h : s.Inv) (hrun : s.runState = .running) : s.inBounds (s.pc.toNat : Int) := by
  obtain ⟨⟨hvalid, -, -⟩, hok⟩ := h
  obtain ⟨hpc, -⟩ := (State.runOk_of_running hrun).1 hok
  simp only [RunConfig.valid, Bool.and_eq_true, decide_eq_true_eq] at hvalid
  exact (s.inBounds_nat _).2 (by omega)

theorem exec_next (i : Instr) (s : State) : ∃ t, exec i s = .next t := by
  obtain ⟨body, hbody, -⟩ := exec_framed i s
  exact hbody ▸ runHandler_next i.opcode s body

/-- ADVANCE halts the core or leaves `RS` alone (R116). -/
theorem State.advance_runState_cases (t : State) (npc : Nat) :
    (t.advance npc).runState = t.runState ∨ (t.advance npc).runState = .halt := by
  rw [State.advance_runState]
  split
  · exact .inr rfl
  · exact .inl rfl

/-- Settles O14: the opcode byte is in Memory, so DECODE raises or the decoded instruction raises or advances. -/
theorem runningCoreTakesAStep : Obligations.RunningCoreTakesAStep := by
  intro s hinv hrun
  rcases fetch_cases s with ⟨hout, -⟩ | ⟨-, -, hfetch⟩ | ⟨-, -, a, -, hfetch⟩ | ⟨-, -, b1, b2, -, hfetch⟩
  · exact absurd (hinv.pc_inBounds hrun) hout
  · exact ⟨_, step_raised hrun hfetch, .inr (.inr ⟨_, rfl, rfl, rfl⟩)⟩
  · exact ⟨_, step_raised hrun hfetch, .inr (.inr ⟨_, rfl, rfl, rfl⟩)⟩
  · obtain ⟨t, hexec⟩ := exec_next (instrOf (s.mem.read s.pc.toNat) b1 b2) s
    refine ⟨t, (step_decoded hrun hfetch).trans hexec, ?_⟩
    rcases exec_cases hexec with ⟨r, -, rfl⟩ | ⟨u, npc, hu, rfl⟩
    · exact .inr (.inr ⟨_, rfl, rfl, instrOf_opcode _ b1 b2⟩)
    · exact (u.advance_runState_cases npc).imp (fun h => h.trans (hu.runState.trans hrun)) .inl

end Sys2Proof.Machine
end

section
/-! PROOF. A push followed by a pop (R130, R131). The pop reads back the two bytes the push has written below SP, and the
ADVANCE between them touches neither Memory nor SP. -/

namespace Sys2Proof.Machine

open Spec

/-! ## A pop, and a push with room below SP -/

/-- A pop in bounds, with addresses as natural numbers (R131). -/
theorem pop16_of_lt {s : State} (h : s.sp.toNat + 1 < s.cfg.memSize) :
    pop16 s =
      .ok (wordOf (s.mem.read (s.sp.toNat + 1)) (s.mem.read s.sp.toNat), { s with sp := s.sp + 2#16 }) :=
  pop16_ok ((s.inBounds_nat _).2 (Nat.lt_of_succ_lt h)) ((s.inBounds_nat _).2 h)

theorem pushed_read_low (s : State) (hi lo : Byte) : (pushed s hi lo).mem.read (s.sp.toNat - 2) = lo :=
  Memory.read_write_same _ _ _

section Push

variable {s : State} (hlow : 2 ≤ s.sp.toNat)

include hlow

/-- With room below SP a push leaves the word there (R130). -/
theorem push16_eq_pushed (hhigh : s.sp.toNat ≤ s.cfg.memSize) (v : Word) :
    push16 s v = .ok (pushed s (highByte v) (lowByte v)) := by
  have h₁ : (s.sp.toNat : Int) - 1 = ((s.sp.toNat - 1 : Nat) : Int) := by omega
  have h₂ : (s.sp.toNat : Int) - 2 = ((s.sp.toNat - 2 : Nat) : Int) := by omega
  have hsp : s.sp - 2#16 = BitVec.ofNat 16 (s.sp.toNat - 2) := by bv_omega
  rw [push16_ok v (by rw [h₁, State.inBounds_nat]; omega) (by rw [h₂, State.inBounds_nat]; omega), h₁, h₂, hsp]
  rfl

theorem pushed_sp_toNat (hi lo : Byte) : (pushed s hi lo).sp.toNat = s.sp.toNat - 2 := by
  have hsp := s.sp.isLt
  simp only [pushed, BitVec.toNat_ofNat]
  omega

theorem pushed_sp_add_two (hi lo : Byte) : (pushed s hi lo).sp + 2#16 = s.sp := by
  have hsp := pushed_sp_toNat hlow hi lo
  bv_omega

theorem pushed_read_high (hi lo : Byte) : (pushed s hi lo).mem.read (s.sp.toNat - 2 + 1) = hi := by
  have haddr : s.sp.toNat - 2 + 1 = s.sp.toNat - 1 := by omega
  have hne : s.sp.toNat - 1 ≠ s.sp.toNat - 2 := by omega
  rw [haddr, pushed, Memory.read_write_other _ _ hne, Memory.read_write_same]

/-- The word just pushed is popped again, SP is back where it was, and the registers and flags are untouched (R131). -/
theorem pop16_advance_pushed (hhigh : s.sp.toNat ≤ s.cfg.memSize) (v : Word) (npc : Nat) :
    ∃ u, pop16 ((pushed s (highByte v) (lowByte v)).advance npc) = .ok (v, u) ∧
      u.regs = s.regs ∧ u.sp = s.sp ∧ u.flags = s.flags := by
  have hsp := pushed_sp_toNat hlow (highByte v) (lowByte v)
  have hroom : (pushed s (highByte v) (lowByte v)).sp.toNat + 1 < s.cfg.memSize := by omega
  have hpop := pop16_of_lt (s := (pushed s (highByte v) (lowByte v)).advance npc) hroom
  rw [State.advance_sp, State.advance_mem, hsp, pushed_read_high hlow, pushed_read_low, wordOf_bytes] at hpop
  exact ⟨_, hpop, rfl, pushed_sp_add_two hlow _ _, rfl⟩

end Push

/-! ## The instructions -/

theorem pushWord_next {op : Byte} {s : State} (hop : opClass op = .f) (hlow : 2 ≤ s.sp.toNat)
    (hhigh : s.sp.toNat ≤ s.cfg.memSize) (v : Word) :
    pushWord op v s = .next ((pushed s (highByte v) (lowByte v)).advance (fallThrough op s)) := by
  rw [pushWord, push16_eq_pushed hlow hhigh]
  exact runHandler_stay _ (handled_of_classF hop)

theorem popPair_next {op : Byte} {s t : State} {v : Word} (hop : opClass op = .f) (hpop : pop16 s = .ok (v, t))
    (p : Pair) : popPair op p s = .next ((t.setPair p v).advance (fallThrough op s)) := by
  rw [popPair, hpop]
  exact runHandler_stay _ (handled_of_classF hop)

theorem popPsw_next {op : Byte} {s t : State} {v : Word} (hop : opClass op = .f) (hpop : pop16 s = .ok (v, t)) :
    popPsw op s = .next ((t.setPsw v).advance (fallThrough op s)) := by
  rw [popPsw, hpop]
  exact runHandler_stay _ (handled_of_classF hop)

/-- PUSH of a pair (R220). -/
theorem exec_push_pair (s : State) :
    ∀ p ∈ ([(.pushB, .bc), (.pushD, .de), (.pushH, .hl)] : List (Instr × Pair)),
      ∃ op, opClass op = .f ∧ exec p.1 s = pushWord op (s.pair p.2) s := by
  simp only [List.forall_mem_cons, List.not_mem_nil, false_implies, implies_true, and_true]
  exact ⟨⟨0xC5#8, rfl, rfl⟩, ⟨0xD5#8, rfl, rfl⟩, ⟨0xE5#8, rfl, rfl⟩⟩

/-- POP of a pair, which is not SP (R222). -/
theorem exec_pop_pair (s : State) :
    ∀ q ∈ ([(.popB, .bc), (.popD, .de), (.popH, .hl)] : List (Instr × Pair)),
      q.2 ≠ .sp ∧ ∃ op, opClass op = .f ∧ exec q.1 s = popPair op q.2 s := by
  simp only [List.forall_mem_cons, List.not_mem_nil, false_implies, implies_true, and_true]
  exact ⟨⟨nofun, 0xC1#8, rfl, rfl⟩, ⟨nofun, 0xD1#8, rfl, rfl⟩, ⟨nofun, 0xE1#8, rfl, rfl⟩⟩

/-- The registers after a write to a pair come from the registers before it. -/
theorem State.setPair_regs_congr {s t : State} (h : t.regs = s.regs) (p : Pair) (v : Word) :
    (t.setPair p v).regs = (s.setPair p v).regs := by
  cases p <;> simp [h]

theorem State.setPair_sp_of_ne {p : Pair} (h : p ≠ .sp) (s : State) (v : Word) : (s.setPair p v).sp = s.sp := by
  cases p with
  | sp => exact absurd rfl h
  | bc | de | hl => rfl

/-- Settles O44: what is popped is the word just pushed; PSW unpacks to the flags it was packed from. -/
theorem popAfterPushMovesThePair : Obligations.PopAfterPushMovesThePair := by
  intro s hlow hhigh
  refine ⟨fun p hp q hq => ?_, ?_⟩
  · obtain ⟨opPush, hpush, hexecPush⟩ := exec_push_pair s p hp
    obtain ⟨u, hpop, hregs, hsp, hflags⟩ := pop16_advance_pushed hlow hhigh (s.pair p.2) (fallThrough opPush s)
    obtain ⟨hne, opPop, hclass, hexecPop⟩ := exec_pop_pair _ q hq
    refine ⟨_, _, hexecPush.trans (pushWord_next hpush hlow hhigh _), hexecPop.trans (popPair_next hclass hpop _),
      ?_, ?_, ?_⟩
    · exact State.setPair_regs_congr hregs _ _
    · exact (State.setPair_sp_of_ne hne _ _).trans hsp
    · exact (State.setPair_flags _ _ _).trans hflags
  · obtain ⟨u, hpop, hregs, hsp, hflags⟩ := pop16_advance_pushed hlow hhigh s.psw (fallThrough 0xF5#8 s)
    refine ⟨_, _, pushWord_next (op := 0xF5#8) rfl hlow hhigh s.psw, popPsw_next (op := 0xF1#8) rfl hpop, ?_, ?_, hsp⟩
    · simp [State.psw, hregs]
    · simp [State.psw, Flags.unpack_pack]

end Sys2Proof.Machine
end

section
/-! PROOF. Data movement: MOV, LDAX, STAX, LXI (R150 to R156). First what a handler that stays answers in the words of the
statements (`fallsThrough`, `failsAt`), with a read or a write of one byte of Memory before it; then each form is the
shared operation of its opcode byte. -/

namespace Sys2Proof.Machine

open Spec

/-! ## A handler that stays, in the words of the statements -/

theorem addrM_eq_hl (s : State) : s.addrM = (hl s : Int) := congrArg Int.ofNat (wordOf_toNat s.regs.h s.regs.l)

/-- The fall-through of an instruction of `n` bytes (R113, R115, R116). -/
theorem advance_fallThrough {op : Byte} {n : Nat} (hlen : 1 + operandLength op = n) {s t : State} (hcfg : t.cfg = s.cfg)
    (hrun : t.runState = s.runState) : t.advance (fallThrough op s) = fallsThrough s t n := by
  rw [State.advance, fallThrough, fallsThrough, Nat.add_assoc, hlen, hcfg, hrun]

theorem not_inBounds_of_le {s : State} {addr : Nat} (h : s.cfg.memSize ≤ addr) : ¬ s.inBounds (addr : Int) :=
  fun hb => Nat.not_lt.2 h ((s.inBounds_nat addr).1 hb)

section Bodies

variable {op : Byte} {s : State} (hop : handled s.cfg.handlers op = true)

include hop

theorem runHandler_stay_fallsThrough {n : Nat} (hlen : 1 + operandLength op = n) {t : State} (hcfg : t.cfg = s.cfg)
    (hrun : t.runState = s.runState) : runHandler op s (.ok (.stay t)) = .next (fallsThrough s t n) := by
  rw [runHandler_stay t hop, advance_fallThrough hlen hcfg hrun]

theorem load_fallsThrough {n : Nat} (hlen : 1 + operandLength op = n) {addr : Nat} (haddr : addr < s.cfg.memSize)
    {f : Byte → State} (hcfg : ∀ v, (f v).cfg = s.cfg) (hrun : ∀ v, (f v).runState = s.runState) :
    runHandler op s ((memRead s addr).map fun v => .stay (f v)) =
      .next (fallsThrough s (f (s.mem.read addr)) n) := by
  rw [memRead_ok ((s.inBounds_nat addr).2 haddr)]
  exact runHandler_stay_fallsThrough hop hlen (hcfg _) (hrun _)

theorem load_failsAt {addr : Nat} (haddr : s.cfg.memSize ≤ addr) (f : Byte → Handled) :
    runHandler op s ((memRead s addr).map f) = .next (failsAt s op addr) := by
  rw [memRead_raises (not_inBounds_of_le haddr)]
  exact runHandler_error _ hop

theorem store_fallsThrough {n : Nat} (hlen : 1 + operandLength op = n) {addr : Nat} (haddr : addr < s.cfg.memSize)
    (v : Byte) :
    runHandler op s ((memWrite s addr v).map .stay) =
      .next (fallsThrough s { s with mem := s.mem.write addr v } n) := by
  rw [memWrite_ok v ((s.inBounds_nat addr).2 haddr)]
  exact runHandler_stay_fallsThrough hop hlen rfl rfl

theorem store_failsAt {addr : Nat} (haddr : s.cfg.memSize ≤ addr) (v : Byte) :
    runHandler op s ((memWrite s addr v).map .stay) = .next (failsAt s op addr) := by
  rw [memWrite_raises v (not_inBounds_of_le haddr)]
  exact runHandler_error _ hop

end Bodies

/-! ## MOV (R150 to R152) -/

theorem Reg.code_ne_six (r : Reg) : r.code ≠ 6#3 := by cases r <;> decide

/-- The quadrant `01 ddd sss` is MOV, of one byte and of class F, but for `01 110 110`, which is HLT (R87, R95). -/
theorem mov_opcode (d s : BitVec 3) (h : d ≠ 6#3 ∨ s ≠ 6#3) :
    opClass (0b01#2 ++ d ++ s) = .f ∧ operandLength (0b01#2 ++ d ++ s) = 0 := by
  revert d s
  decide

theorem encode_movRegForms : ∀ f ∈ movRegForms, encode f.1 = [0b01#2 ++ f.2.1.code ++ f.2.2.code] := by decide

theorem encode_movFromMemForms : ∀ f ∈ movFromMemForms, encode f.1 = [0b01#2 ++ f.2.code ++ 6#3] := by decide

theorem encode_movToMemForms : ∀ f ∈ movToMemForms, encode f.1 = [0b01#2 ++ 6#3 ++ f.2.code] := by decide

/-- Form by form: the dispatch of a list of forms is compared as a list (R114). -/
theorem exec_movRegForms :
    ∀ f ∈ movRegForms, exec f.1 = movRegReg (0b01#2 ++ f.2.1.code ++ f.2.2.code) f.2.1 f.2.2 :=
  List.map_inj_left.1 rfl

theorem exec_movFromMemForms : ∀ f ∈ movFromMemForms, exec f.1 = movRegMem (0b01#2 ++ f.2.code ++ 6#3) f.2 :=
  List.map_inj_left.1 rfl

theorem exec_movToMemForms : ∀ f ∈ movToMemForms, exec f.1 = movMemReg (0b01#2 ++ 6#3 ++ f.2.code) f.2 :=
  List.map_inj_left.1 rfl

/-- Settles O27: every form is `movRegReg` of its two registers, which stays. -/
theorem movCopiesARegister : Obligations.MovCopiesARegister := by
  intro f hf s
  obtain ⟨hclass, hlen⟩ := mov_opcode f.2.1.code f.2.2.code (.inl (Reg.code_ne_six _))
  refine ⟨encode_movRegForms f hf, ?_⟩
  rw [exec_movRegForms f hf, movRegReg]
  exact runHandler_stay_fallsThrough (handled_of_classF hclass) (by rw [hlen]) rfl rfl

/-- Settles O28: every form is `movRegMem`, a load at HL. -/
theorem movLoadsFromHL : Obligations.MovLoadsFromHL := by
  intro f hf s
  obtain ⟨hclass, hlen⟩ := mov_opcode f.2.code 6#3 (.inl (Reg.code_ne_six _))
  have hop := handled_of_classF (hs := s.cfg.handlers) hclass
  rw [exec_movFromMemForms f hf, movRegMem, addrM_eq_hl]
  refine ⟨encode_movFromMemForms f hf, fun hin => ?_, fun hout => ?_⟩
  · exact load_fallsThrough hop (by rw [hlen]) hin (fun _ => rfl) (fun _ => rfl)
  · exact load_failsAt hop hout _

/-- Settles O29: every form is `movMemReg`, a store at HL. -/
theorem movStoresToHL : Obligations.MovStoresToHL := by
  intro f hf s
  obtain ⟨hclass, hlen⟩ := mov_opcode 6#3 f.2.code (.inr (Reg.code_ne_six _))
  have hop := handled_of_classF (hs := s.cfg.handlers) hclass
  rw [exec_movToMemForms f hf, movMemReg, addrM_eq_hl]
  refine ⟨encode_movToMemForms f hf, fun hin => ?_, fun hout => ?_⟩
  · exact store_fallsThrough hop (by rw [hlen]) hin _
  · exact store_failsAt hop hout _

/-! ## LDAX and STAX (R153, R154) -/

/-- LDAX and STAX with their pair, as the statement lists them. -/
def ldaxStaxForms : List (Instr × Instr × Pair) := [(.ldaxB, .staxB, .bc), (.ldaxD, .staxD, .de)]

/-- LDAX is `00 rp 1010` and STAX `00 rp 0010`, each of one byte and of class F (R83, R95). -/
theorem ldaxStaxForms_opcodes :
    ∀ f ∈ ldaxStaxForms,
      (opClass (0b00#2 ++ f.2.2.code ++ 0b1010#4) = .f ∧ operandLength (0b00#2 ++ f.2.2.code ++ 0b1010#4) = 0) ∧
        opClass (0b00#2 ++ f.2.2.code ++ 0b0010#4) = .f ∧ operandLength (0b00#2 ++ f.2.2.code ++ 0b0010#4) = 0 := by
  decide

theorem encode_ldaxStaxForms :
    ∀ f ∈ ldaxStaxForms,
      encode f.1 = [0b00#2 ++ f.2.2.code ++ 0b1010#4] ∧ encode f.2.1 = [0b00#2 ++ f.2.2.code ++ 0b0010#4] := by
  decide

theorem exec_ldaxForms : ∀ f ∈ ldaxStaxForms, exec f.1 = ldax (0b00#2 ++ f.2.2.code ++ 0b1010#4) f.2.2 :=
  List.map_inj_left.1 rfl

theorem exec_staxForms : ∀ f ∈ ldaxStaxForms, exec f.2.1 = stax (0b00#2 ++ f.2.2.code ++ 0b0010#4) f.2.2 :=
  List.map_inj_left.1 rfl

/-- Settles O30: LDAX is `ldax`, a load of A at the pair, and STAX is `stax`, a store of A there. -/
theorem ldaxAndStaxUseTheNamedPair : Obligations.LdaxAndStaxUseTheNamedPair := by
  intro f (hf : f ∈ ldaxStaxForms) s
  obtain ⟨⟨hloadClass, hloadLen⟩, hstoreClass, hstoreLen⟩ := ldaxStaxForms_opcodes f hf
  obtain ⟨hencLoad, hencStore⟩ := encode_ldaxStaxForms f hf
  have hload := handled_of_classF (hs := s.cfg.handlers) hloadClass
  have hstore := handled_of_classF (hs := s.cfg.handlers) hstoreClass
  rw [exec_ldaxForms f hf, exec_staxForms f hf, ldax, stax, State.pairAddr]
  refine ⟨hencLoad, hencStore, fun hin => ⟨?_, ?_⟩, fun hout => ⟨?_, ?_⟩⟩
  · exact load_fallsThrough hload (by rw [hloadLen]) hin (fun _ => rfl) (fun _ => rfl)
  · exact store_fallsThrough hstore (by rw [hstoreLen]) hin _
  · exact load_failsAt hload hout _
  · exact store_failsAt hstore hout _

/-! ## LXI (R155, R156) -/

theorem lxi_fallsThrough {op : Byte} (hop : opClass op = .f) (hlen : operandLength op = 2) {s t : State} {p : Pair}
    {d16 : Word} (ht : s.setPair p d16 = t) : lxi op p d16 s = .next (fallsThrough s t 3) := by
  subst ht
  exact runHandler_stay_fallsThrough (handled_of_classF hop) (by rw [hlen]) (s.setPair_cfg p d16)
    (s.setPair_runState p d16)

/-- A word given by its two bytes goes to the two halves of a pair (R23). -/
theorem State.setPair_wordOf (s : State) (hi lo : Byte) :
    s.setPair .bc (wordOf hi lo) = { s with regs := { s.regs with b := hi, c := lo } } ∧
      s.setPair .de (wordOf hi lo) = { s with regs := { s.regs with d := hi, e := lo } } ∧
      s.setPair .hl (wordOf hi lo) = { s with regs := { s.regs with h := hi, l := lo } } := by
  simp only [State.setPair, highByte_wordOf, lowByte_wordOf, and_self]

/-- The bytes of an instruction with the operand `{hi, lo}`: the low byte first (R85). -/
theorem bytes_wordOf (op hi lo : Byte) : [op, lowByte (wordOf hi lo), highByte (wordOf hi lo)] = [op, lo, hi] := by
  rw [lowByte_wordOf, highByte_wordOf]

/-- Settles O31: every form is `lxi` of its pair, which stays; the errors of DECODE are those of every opcode with two
operand bytes. -/
theorem lxiLoadsThePair : Obligations.LxiLoadsThePair := by
  intro s b1 b2
  obtain ⟨hbc, hde, hhl⟩ := s.setPair_wordOf b2 b1
  refine ⟨⟨bytes_wordOf _ b2 b1, ?_⟩, ⟨bytes_wordOf _ b2 b1, ?_⟩, ⟨bytes_wordOf _ b2 b1, ?_⟩,
    ⟨bytes_wordOf _ b2 b1, ?_⟩, operandFetchOutOfBoundsIsFatal 0x01#8, operandFetchOutOfBoundsIsFatal 0x11#8,
    operandFetchOutOfBoundsIsFatal 0x21#8, operandFetchOutOfBoundsIsFatal 0x31#8⟩
  · exact lxi_fallsThrough (op := 0x01#8) rfl rfl hbc
  · exact lxi_fallsThrough (op := 0x11#8) rfl rfl hde
  · exact lxi_fallsThrough (op := 0x21#8) rfl rfl hhl
  · exact lxi_fallsThrough (op := 0x31#8) rfl rfl (p := .sp) rfl

end Sys2Proof.Machine
end

section
/-! PROOF. Arithmetic on the accumulator: ADD, ADC, SUB, SBB and their immediate forms (R170 to R181). First what any
accumulator instruction does: its opcode byte, its operand and its flags in the words of `AccumulatorRule`. An obligation is
then that rule for the forms of one operation, with the byte and the two carries that the adder or the subtractor gives. -/

namespace Sys2Proof.Machine

open Spec

/-! ## The opcode byte of an accumulator instruction (R83) -/

/-- `10 kkk sss`, `10 kkk 110` or `11 kkk 110`: the first of `accBytes`. -/
def accOpcode (kkk : BitVec 3) : Src → Byte
  | .reg r => 0b10#2 ++ kkk ++ r.code
  | .mem => 0b10#2 ++ kkk ++ 6#3
  | .imm _ => 0b11#2 ++ kkk ++ 6#3

theorem accBytes_head? (kkk : BitVec 3) (src : Src) : (accBytes kkk src).head? = some (accOpcode kkk src) := by
  cases src <;> rfl

/-- The whole quadrant `10 kkk sss` and the column `11 kkk 110` are of class F, and only the immediate forms have an operand
byte (R85, R87, R95). -/
theorem accOpcode_class_length (kkk : BitVec 3) (src : Src) :
    opClass (accOpcode kkk src) = .f ∧ 1 + operandLength (accOpcode kkk src) = (accBytes kkk src).length := by
  have hquadrant : ∀ k sss : BitVec 3,
      opClass (0b10#2 ++ k ++ sss) = .f ∧ 1 + operandLength (0b10#2 ++ k ++ sss) = 1 := by decide
  have hcolumn : ∀ k : BitVec 3,
      opClass (0b11#2 ++ k ++ 6#3) = .f ∧ 1 + operandLength (0b11#2 ++ k ++ 6#3) = 2 := by decide
  cases src with
  | reg r => exact hquadrant kkk r.code
  | mem => exact hquadrant kkk 6#3
  | imm d8 => exact hcolumn kkk

/-! ## The operand (R84, R129) -/

theorem Src.value_of_operand_eq_some {s : State} {src : Src} {v : Byte} (h : operand s src = some v) :
    src.value s = .ok v := by
  cases src with
  | reg r => exact congrArg Except.ok (Option.some.inj h)
  | imm d8 => exact congrArg Except.ok (Option.some.inj h)
  | mem =>
    obtain ⟨hin, hread⟩ := Option.ite_none_right_eq_some.1 h
    rw [Src.value, addrM_eq_hl, memRead_ok ((s.inBounds_nat _).2 hin)]
    exact congrArg Except.ok (Option.some.inj hread)

/-- Only the memory form has an address that can be out of bounds. -/
theorem operand_eq_none_iff {s : State} {src : Src} :
    operand s src = none ↔ src = .mem ∧ s.cfg.memSize ≤ hl s := by
  cases src <;> simp [operand]

/-! ## The flags (R120 to R123) -/

/-- Zero, as a number. -/
theorem beq_zero_eq_decide (r : Byte) : (r == 0#8) = decide (r.toNat = 0) := by
  rw [Bool.beq_eq_decide_eq, decide_eq_decide, BitVec.toNat_eq]
  rfl

/-- `SetZSP` in the words of the statements. -/
theorem Flags.setZSP_eq_flagsOf (f : Flags) (r : Byte) : f.setZSP r = flagsOf r f.cy f.ac := by
  rw [Flags.setZSP, flagsOf, beq_zero_eq_decide, ← BitVec.msb_eq_getLsbD_last, BitVec.msb_eq_decide, parity8,
    popcount_eq_bitCount]
  rfl

theorem Flags.ofAlu_eq_flagsOf (f : Flags) (o : AluOut) : f.ofAlu o = flagsOf o.r o.cy o.ac := by
  rw [Flags.ofAlu, Flags.setZSP_eq_flagsOf]
  rfl

/-! ## The rule of an accumulator instruction -/

/-- An instruction whose handler reads the operand and stays obeys the rule. -/
theorem accumulatorRule_of_handler {kkk : BitVec 3} {i : Instr} {src : Src} {result : State → Byte → State}
    (hencode : encode i = accBytes kkk src)
    (hexec : ∀ s, exec i s = runHandler (accOpcode kkk src) s ((src.value s).map fun v => .stay (result s v)))
    (hcfg : ∀ s v, (result s v).cfg = s.cfg) (hrun : ∀ s v, (result s v).runState = s.runState) :
    AccumulatorRule kkk i src result := by
  refine ⟨hencode, fun s => ?_⟩
  obtain ⟨hclass, hlen⟩ := accOpcode_class_length kkk src
  have hop := handled_of_classF (hs := s.cfg.handlers) hclass
  rw [hexec]
  refine ⟨fun v hv => ?_, fun hnone => ?_⟩
  · rw [Src.value_of_operand_eq_some hv]
    exact runHandler_stay_fallsThrough hop hlen (hcfg s v) (hrun s v)
  · obtain ⟨rfl, hout⟩ := operand_eq_none_iff.1 hnone
    rw [Src.value, addrM_eq_hl]
    exact load_failsAt hop hout _

/-- The forms of one operation that writes A and all five flags: their bytes and their arms of the dispatch are compared
form by form, and `r`, `cy`, `ac` say what the operation gives. -/
theorem accumulatorRule_of_accumulate {kkk : BitVec 3} {forms : List (Instr × Src)} {alu : State → Byte → AluOut}
    {r : State → Byte → Byte} {cy ac : State → Byte → Bool}
    (hencode : forms.map (fun f => encode f.1) = forms.map fun f => accBytes kkk f.2)
    (hexec : forms.map (fun f => exec f.1) = forms.map fun f s => accumulate (accOpcode kkk f.2) f.2 (alu s) s)
    (hr : ∀ s v, (alu s v).r = r s v) (hcy : ∀ s v, (alu s v).cy = cy s v) (hac : ∀ s v, (alu s v).ac = ac s v) :
    ∀ f ∈ forms, AccumulatorRule kkk f.1 f.2 fun s v => withAcc s (r s v) (flagsOf (r s v) (cy s v) (ac s v)) := by
  intro f hf
  refine accumulatorRule_of_handler (List.map_inj_left.1 hencode f hf) (fun s => ?_) (fun _ _ => rfl) fun _ _ => rfl
  rw [congrFun (List.map_inj_left.1 hexec f hf) s, accumulate]
  simp only [Flags.ofAlu_eq_flagsOf, hr, hcy, hac]
  rfl

/-! ## The byte and the carry, where `add8_r`, `add8_ac`, `sub8_r`, `sub8_cy` and `sub8_ac` do not already say them -/

theorem add8_cy (a b : Byte) (cin : Bool) : (add8 a b cin).cy = decide (255 < a.toNat + b.toNat + bit cin) := by
  rw [bit_eq_toNat]
  rfl

theorem add8_r_false (a b : Byte) : (add8 a b false).r = a + b := (add8_r a b false).trans (BitVec.add_zero _)

theorem add8_r_ofNat (a b : Byte) (cin : Bool) :
    (add8 a b cin).r = BitVec.ofNat 8 (a.toNat + b.toNat + bit cin) := by
  rw [bit_eq_toNat]
  rfl

theorem sub8_r_false (a b : Byte) : (sub8 a b false).r = a - b := (sub8_r a b false).trans (BitVec.sub_zero _)

/-- The subtrahend is at most 256, so `a + 512` is above it and the natural difference is the byte modulo 256. -/
theorem sub8_r_ofNat (a b : Byte) (bin : Bool) :
    (sub8 a b bin).r = BitVec.ofNat 8 (a.toNat + 512 - (b.toNat + bit bin)) := by
  have hbalance := sub8_balance a b bin
  have hr := (sub8 a b bin).r.isLt
  have hb := b.isLt
  have hbin := bit_le_one bin
  apply BitVec.eq_of_toNat_eq
  rw [BitVec.toNat_ofNat]
  omega

/-! ## The four operations -/

/-- Settles O32: every form is `addSrc`, the adder with no carry in. -/
theorem addGivesTheSum : Obligations.AddGivesTheSum :=
  ⟨fun _ => accumulatorRule_of_accumulate (alu := fun s v => add8 s.regs.a v false) rfl rfl
    (fun s v => add8_r_false s.regs.a v) (fun s v => add8_cy s.regs.a v false) (fun s v => add8_ac s.regs.a v false),
    operandFetchOutOfBoundsIsFatal 0xC6#8⟩

/-- Settles O33: every form is `adcSrc`, the adder with Carry in. -/
theorem adcAddsTheCarry : Obligations.AdcAddsTheCarry :=
  ⟨fun _ => accumulatorRule_of_accumulate (alu := fun s v => add8 s.regs.a v s.flags.cy) rfl rfl
    (fun s v => add8_r_ofNat s.regs.a v s.flags.cy) (fun s v => add8_cy s.regs.a v s.flags.cy)
    (fun s v => add8_ac s.regs.a v s.flags.cy),
    operandFetchOutOfBoundsIsFatal 0xCE#8⟩

/-- Settles O34: every form is `subSrc`, the subtractor with no borrow in. -/
theorem subGivesTheDifference : Obligations.SubGivesTheDifference :=
  ⟨fun _ => accumulatorRule_of_accumulate (alu := fun s v => sub8 s.regs.a v false) rfl rfl
    (fun s v => sub8_r_false s.regs.a v) (fun s v => sub8_cy s.regs.a v false) (fun s v => sub8_ac s.regs.a v false),
    operandFetchOutOfBoundsIsFatal 0xD6#8⟩

/-- Settles O35: every form is `sbbSrc`, the subtractor with Carry as the borrow in. -/
theorem sbbSubtractsTheBorrow : Obligations.SbbSubtractsTheBorrow :=
  ⟨fun _ => accumulatorRule_of_accumulate (alu := fun s v => sub8 s.regs.a v s.flags.cy) rfl rfl
    (fun s v => sub8_r_ofNat s.regs.a v s.flags.cy) (fun s v => sub8_cy s.regs.a v s.flags.cy)
    (fun s v => sub8_ac s.regs.a v s.flags.cy),
    operandFetchOutOfBoundsIsFatal 0xDE#8⟩

end Sys2Proof.Machine
end

section
/-! PROOF. Logic and compare on the accumulator: ANA, XRA, ORA, CMP and their immediate forms (R190 to R201). The logic
unit writes A and all five flags, so its three operations are instances of `accumulatorRule_of_accumulate`; a compare
writes `Z S P CY` alone and is given by what its flags are. -/

namespace Sys2Proof.Machine

open Spec

/-! ## The logic unit (R126) -/

/-- Settles O36: every form is `anaSrc`, the AND of the logic unit. -/
theorem anaAndsTheAccumulator : Obligations.AnaAndsTheAccumulator :=
  ⟨fun _ => accumulatorRule_of_accumulate (alu := fun s v => and8 s.regs.a v) rfl rfl
    (fun _ _ => rfl) (fun _ _ => rfl) (fun _ _ => rfl),
    operandFetchOutOfBoundsIsFatal 0xE6#8⟩

/-- Settles O37: every form is `xraSrc`, the exclusive OR of the logic unit. -/
theorem xraXorsTheAccumulator : Obligations.XraXorsTheAccumulator :=
  ⟨fun _ => accumulatorRule_of_accumulate (alu := fun s v => xor8 s.regs.a v) rfl rfl
    (fun _ _ => rfl) (fun _ _ => rfl) (fun _ _ => rfl),
    operandFetchOutOfBoundsIsFatal 0xEE#8⟩

/-- Settles O38: every form is `oraSrc`, the OR of the logic unit. -/
theorem oraOrsTheAccumulator : Obligations.OraOrsTheAccumulator :=
  ⟨fun _ => accumulatorRule_of_accumulate (alu := fun s v => or8 s.regs.a v) rfl rfl
    (fun _ _ => rfl) (fun _ _ => rfl) (fun _ _ => rfl),
    operandFetchOutOfBoundsIsFatal 0xF6#8⟩

/-! ## Compare (R127) -/

theorem Flags.ofCompare_eq_flagsOf (f : Flags) (o : AluOut) : f.ofCompare o = flagsOf o.r o.cy f.ac := by
  rw [Flags.ofCompare, Flags.setZSP_eq_flagsOf]
  rfl

/-- A compare is a subtraction with no borrow in, of which only `Z S P CY` are kept. -/
theorem Flags.ofCompare_sub8 (f : Flags) (a v : Byte) :
    f.ofCompare (sub8 a v false) = flagsOf (a - v) (decide (a.toNat < v.toNat)) f.ac := by
  rw [Flags.ofCompare_eq_flagsOf, sub8_r_false, sub8_cy]
  rfl

theorem encode_cmpForms (d8 : Byte) : ∀ f ∈ cmpForms d8, encode f.1 = accBytes 7#3 f.2 := List.map_inj_left.1 rfl

theorem exec_cmpForms (d8 : Byte) : ∀ f ∈ cmpForms d8, exec f.1 = cmpSrc (accOpcode 7#3 f.2) f.2 :=
  List.map_inj_left.1 rfl

/-- Settles O39: every form is `cmpSrc`, whose handler reads the operand and writes flags only. -/
theorem cmpComparesWithoutStoring : Obligations.CmpComparesWithoutStoring := by
  refine ⟨fun d8 f hf => ?_, operandFetchOutOfBoundsIsFatal 0xFE#8⟩
  refine accumulatorRule_of_handler (encode_cmpForms d8 f hf) (fun s => ?_) (fun _ _ => rfl) fun _ _ => rfl
  rw [exec_cmpForms d8 f hf, cmpSrc]
  simp only [Flags.ofCompare_sub8]
  rfl

end Sys2Proof.Machine
end

section
/-! PROOF. Rotates, complement and no-op (R210 to R215). A rotate shifts one bit into the accumulator and the bit at the
other end out. The plain rotates are the rotates through Carry with the ejected bit brought in, so each direction has one
byte to compute. -/

namespace Sys2Proof.Machine

open Spec

/-! ## The ejected bit, as a number -/

theorem getLsbD_seven_eq_decide (a : Byte) : a.getLsbD 7 = decide (128 ≤ a.toNat) := by
  rw [← BitVec.msb_eq_getLsbD_last, BitVec.msb_eq_decide]

theorem getLsbD_zero_eq_decide (a : Byte) : a.getLsbD 0 = decide (a.toNat % 2 = 1) := Nat.testBit_zero a.toNat

theorem bit_getLsbD_seven (a : Byte) : bit (a.getLsbD 7) = a.toNat / 128 := by
  have ha := a.isLt
  rw [getLsbD_seven_eq_decide, bit_decide]
  split <;> omega

theorem bit_getLsbD_zero (a : Byte) : bit (a.getLsbD 0) = a.toNat % 2 := by
  rw [getLsbD_zero_eq_decide, bit_decide]
  split <;> omega

/-! ## The rotates through Carry (R212, R213) -/

/-- The new low bit is appended to `A[6:0]`; the ninth bit of the sum is the ejected one and drops out. -/
theorem rotateLeftCarry_eq (a : Byte) (cy : Bool) :
    rotateLeftCarry a cy = (BitVec.ofNat 8 (2 * a.toNat + bit cy), decide (128 ≤ a.toNat)) := by
  refine Prod.ext (BitVec.eq_of_toNat_eq ?_) (getLsbD_seven_eq_decide a)
  rw [rotateLeftCarry, BitVec.append_ofBool, BitVec.toNat_concat, BitVec.extractLsb'_toNat, Nat.shiftRight_zero,
    BitVec.toNat_ofNat, ← bit_eq_toNat]
  have hcy := bit_le_one cy
  omega

/-- The new high bit stands before `A[7:1]`. -/
theorem rotateRightCarry_eq (a : Byte) (cy : Bool) :
    rotateRightCarry a cy = (BitVec.ofNat 8 (a.toNat / 2 + 128 * bit cy), decide (a.toNat % 2 = 1)) := by
  refine Prod.ext (BitVec.eq_of_toNat_eq ?_) (getLsbD_zero_eq_decide a)
  change (BitVec.cons cy (a.extractLsb' 1 7)).toNat = _
  rw [BitVec.toNat_cons', BitVec.extractLsb'_toNat, Nat.shiftLeft_eq, Nat.shiftRight_eq_div_pow, BitVec.toNat_ofNat,
    ← bit_eq_toNat]
  have ha := a.isLt
  have hcy := bit_le_one cy
  omega

/-! ## The plain rotates (R210, R211) -/

theorem extractLsb'_one_eq_ofBool (a : Byte) (k : Nat) : a.extractLsb' k 1 = BitVec.ofBool (a.getLsbD k) := by
  ext i hi
  obtain rfl : i = 0 := by omega
  simp

theorem rotateLeft_eq_rotateLeftCarry (a : Byte) : rotateLeft a = rotateLeftCarry a (a.getLsbD 7) := by
  rw [rotateLeft, rotateLeftCarry, extractLsb'_one_eq_ofBool]

theorem rotateRight_eq_rotateRightCarry (a : Byte) : rotateRight a = rotateRightCarry a (a.getLsbD 0) := by
  rw [rotateRight, rotateRightCarry, extractLsb'_one_eq_ofBool]

theorem rotateLeft_eq (a : Byte) :
    rotateLeft a = (BitVec.ofNat 8 (2 * a.toNat + a.toNat / 128), decide (128 ≤ a.toNat)) := by
  rw [rotateLeft_eq_rotateLeftCarry, rotateLeftCarry_eq, bit_getLsbD_seven]

theorem rotateRight_eq (a : Byte) :
    rotateRight a = (BitVec.ofNat 8 (a.toNat / 2 + 128 * (a.toNat % 2)), decide (a.toNat % 2 = 1)) := by
  rw [rotateRight_eq_rotateRightCarry, rotateRightCarry_eq, bit_getLsbD_zero]

/-! ## What the instructions leave -/

/-- A handler of one opcode byte of class F that stays: PC advances by 1 (R115). -/
theorem runHandler_stay_one {op : Byte} (hclass : opClass op = .f) (hlen : operandLength op = 0) {s t : State}
    (hcfg : t.cfg = s.cfg) (hrun : t.runState = s.runState) :
    runHandler op s (.ok (.stay t)) = .next (fallsThrough s t 1) :=
  runHandler_stay_fallsThrough (handled_of_classF hclass) (by rw [hlen]) hcfg hrun

theorem rotateAcc_fallsThrough {op : Byte} (hclass : opClass op = .f) (hlen : operandLength op = 0)
    {o : Byte × Bool} {r : Byte} {cy : Bool} (ho : o = (r, cy)) (s : State) :
    rotateAcc op o s = .next (fallsThrough s (withAcc s r { s.flags with cy := cy }) 1) := by
  subst ho
  exact runHandler_stay_one hclass hlen rfl rfl

/-- Settles O40: each is `rotateAcc` of its byte, with the accumulator and the Carry that its rotate gives. -/
theorem rotatesMoveOneBit : Obligations.RotatesMoveOneBit := by
  refine ⟨⟨rfl, rfl, rfl, rfl⟩, fun s => ⟨?_, ?_, ?_, ?_⟩⟩
  · exact rotateAcc_fallsThrough (op := 0x07#8) rfl rfl (rotateLeft_eq s.regs.a) s
  · exact rotateAcc_fallsThrough (op := 0x0F#8) rfl rfl (rotateRight_eq s.regs.a) s
  · exact rotateAcc_fallsThrough (op := 0x17#8) rfl rfl (rotateLeftCarry_eq s.regs.a s.flags.cy) s
  · exact rotateAcc_fallsThrough (op := 0x1F#8) rfl rfl (rotateRightCarry_eq s.regs.a s.flags.cy) s

/-- The one's complement of a byte is the difference from 255 (R214). -/
theorem not_eq_ofNat_sub (a : Byte) : ~~~a = BitVec.ofNat 8 (255 - a.toNat) := by
  have ha := a.isLt
  apply BitVec.eq_of_toNat_eq
  rw [BitVec.toNat_not, BitVec.toNat_ofNat]
  omega

/-- Settles O41: both handlers stay, CMA with the complement in A, NOP with the state as it is. -/
theorem cmaAndNopWriteNoFlag : Obligations.CmaAndNopWriteNoFlag := by
  refine ⟨⟨rfl, rfl⟩, fun s => ⟨?_, ?_⟩⟩
  · rw [← not_eq_ofNat_sub]
    exact runHandler_stay_one (op := 0x2F#8) rfl rfl rfl rfl
  · exact runHandler_stay_one (op := 0x00#8) rfl rfl rfl rfl

end Sys2Proof.Machine
end

section
/-! PROOF. Stack: PUSH and POP (R220 to R223). First the two rules of the statements, `PushRule` and `PopRule`, for any
handler that pushes or pops and goes on with what it got; then each instruction is one such handler, which stays. -/

namespace Sys2Proof.Machine

open Spec

/-! ## A push out of bounds (R130, R342) -/

theorem not_inBounds_of_neg {s : State} {addr : Int} (h : addr < 0) : ¬ s.inBounds addr :=
  fun hb => Int.not_lt.2 hb.1 h

/-- With SP = 0 the first byte is out of bounds, with SP = 1 the second, both at -1. -/
theorem push16_raises_below {s : State} (hlow : s.sp.toNat < 2) (hhigh : s.sp.toNat ≤ s.cfg.memSize) (v : Word) :
    push16 s v = .error (.outOfBoundsAccess (-1)) := by
  have hout : ¬ s.inBounds (-1) := not_inBounds_of_neg (by decide)
  obtain hsp | hsp : s.sp.toNat = 0 ∨ s.sp.toNat = 1 := by omega
  · have haddr : (s.sp.toNat : Int) - 1 = -1 := by omega
    rw [push16, haddr, if_neg hout]
  · have hfirst : (s.sp.toNat : Int) - 1 = (0 : Nat) := by omega
    have hsecond : (s.sp.toNat : Int) - 2 = -1 := by omega
    rw [push16, hfirst, hsecond, if_pos ((s.inBounds_nat 0).2 (by omega)), if_neg hout]

theorem push16_raises_above {s : State} (hhigh : s.cfg.memSize < s.sp.toNat) (v : Word) :
    push16 s v = .error (.outOfBoundsAccess ((s.sp.toNat : Int) - 1)) := by
  have haddr : (s.sp.toNat : Int) - 1 = ((s.sp.toNat - 1 : Nat) : Int) := by omega
  rw [push16, haddr, if_neg (not_inBounds_of_le (by omega))]

/-! ## A pop out of bounds (R131, R342) -/

theorem pop16_raises_high {s : State} (h : s.sp.toNat + 1 = s.cfg.memSize) :
    pop16 s = .error (.outOfBoundsAccess ((s.sp.toNat : Int) + 1)) := by
  have hlow : s.inBounds (s.sp.toNat : Int) := (s.inBounds_nat _).2 (by omega)
  have hhigh : ¬ s.inBounds ((s.sp.toNat : Int) + 1) := not_inBounds_of_le (addr := s.sp.toNat + 1) (by omega)
  rw [pop16_eq_map, memRead16_raises_high hlow hhigh]
  rfl

theorem pop16_raises_low {s : State} (h : s.cfg.memSize ≤ s.sp.toNat) :
    pop16 s = .error (.outOfBoundsAccess s.sp.toNat) := by
  rw [pop16_eq_map, memRead16_raises_low (not_inBounds_of_le h)]
  rfl

/-! ## The rules of a push and of a pop -/

section Rules

variable {s : State} {i : Instr} {op : Byte} (hop : handled s.cfg.handlers op = true)

include hop

/-- A handler that pushes the word `{hi, lo}` and goes on with `next` obeys the rule of a push. -/
theorem pushRule_of_handler {v : Word} {hi lo : Byte} (hhi : highByte v = hi) (hlo : lowByte v = lo)
    {next : State → Handled} {after : State → State}
    (hexec : exec i s = runHandler op s ((push16 s v).map next))
    (hafter : runHandler op s (.ok (next (pushed s hi lo))) = .next (after (pushed s hi lo))) :
    PushRule s i op hi lo after := by
  subst hhi hlo
  refine ⟨fun hlow hhigh => ?_, fun hlow hhigh => ?_, fun hhigh => ?_⟩
  · rw [hexec, push16_eq_pushed hlow hhigh]
    exact hafter
  · rw [hexec, push16_raises_below hlow hhigh]
    exact runHandler_error _ hop
  · rw [hexec, push16_raises_above hhigh]
    exact runHandler_error _ hop

/-- A handler that pops and goes on with `next` obeys the rule of a pop. -/
theorem popRule_of_handler {next : Word × State → Handled} {after : State → Byte → Byte → State}
    (hexec : exec i s = runHandler op s ((pop16 s).map next))
    (hafter : ∀ (sp : Word) (hi lo : Byte),
      runHandler op s (.ok (next (wordOf hi lo, { s with sp := sp }))) = .next (after { s with sp := sp } hi lo)) :
    PopRule s i op after := by
  refine ⟨fun hin => ?_, fun hhigh => ?_, fun hlow => ?_⟩
  · have hsp : s.sp + 2#16 = BitVec.ofNat 16 (s.sp.toNat + 2) := by bv_omega
    rw [hexec, pop16_of_lt hin, hsp]
    exact hafter _ _ _
  · rw [hexec, pop16_raises_high hhigh]
    exact runHandler_error _ hop
  · rw [hexec, pop16_raises_low hlow]
    exact runHandler_error _ hop

end Rules

/-! ## PUSH and POP (R220 to R223) -/

section Forms

variable {s : State} {i : Instr} {op : Byte} (hclass : opClass op = .f) (hlen : operandLength op = 0)

include hclass hlen

theorem pushRule_of_pushWord {hi lo : Byte} (hexec : exec i s = pushWord op (wordOf hi lo) s) :
    PushRule s i op hi lo (fun t => fallsThrough s t 1) :=
  pushRule_of_handler (handled_of_classF hclass) (highByte_wordOf hi lo) (lowByte_wordOf hi lo) hexec
    (runHandler_stay_one hclass hlen rfl rfl)

/-- `result` is what the popped word `{hi, lo}` leaves in the pair. -/
theorem popRule_of_popPair {p : Pair} {result : State → Byte → Byte → State} (hexec : exec i s = popPair op p s)
    (hresult : ∀ (sp : Word) (hi lo : Byte),
      ({ s with sp := sp } : State).setPair p (wordOf hi lo) = result { s with sp := sp } hi lo) :
    PopRule s i op (fun t hi lo => fallsThrough s (result t hi lo) 1) := by
  refine popRule_of_handler (handled_of_classF hclass) hexec fun sp hi lo => ?_
  rw [← hresult]
  exact runHandler_stay_one hclass hlen (State.setPair_cfg _ p _) (State.setPair_runState _ p _)

end Forms

/-- Settles O42: each is `pushWord` of the word of its two bytes; that of PSW is A and the packed flags. -/
theorem pushStoresThePair : Obligations.PushStoresThePair := by
  refine ⟨⟨rfl, rfl, rfl, rfl⟩, fun s => ⟨?_, ?_, ?_, ?_⟩⟩
  · exact pushRule_of_pushWord rfl rfl rfl
  · exact pushRule_of_pushWord rfl rfl rfl
  · exact pushRule_of_pushWord rfl rfl rfl
  · rw [← Flags.pack_eq_flagByte]
    exact pushRule_of_pushWord rfl rfl rfl

/-- Settles O43: each pops a word, whose halves go to the pair, or to A and the flags. -/
theorem popLoadsThePair : Obligations.PopLoadsThePair := by
  refine ⟨⟨rfl, rfl, rfl, rfl⟩, fun s => ?_⟩
  have hpair sp := State.setPair_wordOf { s with sp := sp }
  refine ⟨?_, ?_, ?_, ?_⟩
  · exact popRule_of_popPair rfl rfl rfl fun sp hi lo => (hpair sp hi lo).1
  · exact popRule_of_popPair rfl rfl rfl fun sp hi lo => (hpair sp hi lo).2.1
  · exact popRule_of_popPair rfl rfl rfl fun sp hi lo => (hpair sp hi lo).2.2
  · refine popRule_of_handler (handled_of_classF rfl) rfl fun sp hi lo => ?_
    rw [State.setPsw, highByte_wordOf, lowByte_wordOf]
    exact runHandler_stay_one rfl rfl rfl rfl

end Sys2Proof.Machine
end

section
/-! PROOF. Jumps, call and return: JMP, Jcc, CALL, RET (R230 to R240). First what a handler that writes PC answers in the
words of the statements (`goesTo`), alone and after a push or a pop, for any handled opcode; then each form is the shared
operation of its opcode byte. -/

namespace Sys2Proof.Machine

open Spec

/-! ## A handler that transfers control, in the words of the statements (R114 to R116) -/

theorem advance_target {s t : State} (target : Word) (hcfg : t.cfg = s.cfg) (hrun : t.runState = s.runState) :
    t.advance target.toNat = goesTo s t target := by
  rw [State.advance, goesTo, BitVec.ofNat_toNat, BitVec.setWidth_eq, hcfg, hrun]

/-- The high byte of the 16-bit return address is that of the integer `PC + n` (R239). -/
theorem highByte_returnAddress {op : Byte} {n : Nat} (hlen : 1 + operandLength op = n) (s : State) :
    highByte (returnAddress op s) = returnHigh s n := by
  apply BitVec.eq_of_toNat_eq
  rw [highByte_toNat, returnAddress, fallThrough, returnHigh, Nat.add_assoc, hlen]
  simp only [BitVec.toNat_ofNat]
  omega

theorem lowByte_returnAddress {op : Byte} {n : Nat} (hlen : 1 + operandLength op = n) (s : State) :
    lowByte (returnAddress op s) = returnLow s n := by
  apply BitVec.eq_of_toNat_eq
  rw [lowByte_toNat, returnAddress, fallThrough, returnLow, Nat.add_assoc, hlen]
  simp only [BitVec.toNat_ofNat]
  omega

section Bodies

variable {op : Byte} {s : State} (hop : handled s.cfg.handlers op = true)

include hop

theorem runHandler_goto_goesTo {t : State} (target : Word) (hcfg : t.cfg = s.cfg) (hrun : t.runState = s.runState) :
    runHandler op s (.ok (.goto t target)) = .next (goesTo s t target) := by
  rw [runHandler_goto t target hop, advance_target target hcfg hrun]

/-- A conditional jump, taken or not (R231 to R238). -/
theorem jumpIf_next {n : Nat} (hlen : 1 + operandLength op = n) (cond : Cond) (a16 : Word) :
    jumpIf op cond a16 s = .next (if condHolds cond s.flags then goesTo s s a16 else fallsThrough s s n) := by
  unfold jumpIf
  split
  · exact runHandler_goto_goesTo hop a16 rfl rfl
  · exact runHandler_stay_fallsThrough hop hlen rfl rfl

/-- A call pushes the address after its `n` bytes and goes to its target (R239). -/
theorem pushRule_of_callTo {n : Nat} (hlen : 1 + operandLength op = n) {i : Instr} {target : Word}
    (hexec : exec i s = callTo op target s) :
    PushRule s i op (returnHigh s n) (returnLow s n) (fun t => goesTo s t target) :=
  pushRule_of_handler hop (highByte_returnAddress hlen s) (lowByte_returnAddress hlen s) hexec
    (runHandler_goto_goesTo hop target rfl rfl)

/-- A return goes to the popped word (R240). -/
theorem popRule_of_returnFrom {i : Instr} (hexec : exec i s = returnFrom op s) :
    PopRule s i op (fun t hi lo => goesTo s t (wordOf hi lo)) :=
  popRule_of_handler hop hexec fun _ hi lo => runHandler_goto_goesTo hop (wordOf hi lo) rfl rfl

end Bodies

/-! ## JMP and Jcc (R230 to R238) -/

/-- The column `11 ccc 010` is of class F, with two operand bytes (R85, R87, R95). -/
theorem jumpIf_opcode : ∀ ccc : BitVec 3,
    opClass (0b11#2 ++ ccc ++ 0b010#3) = .f ∧ operandLength (0b11#2 ++ ccc ++ 0b010#3) = 2 := by decide

/-- Every form of Jcc is `jumpIf` of the condition that its code and its truth belong to (R83, R128). -/
theorem jumpIfForms_cond (a16 : Word) : ∀ f ∈ jumpIfForms a16, ∃ cond : Cond,
    f.2 = (cond.code, condHolds cond) ∧
      encode f.1 = [0b11#2 ++ cond.code ++ 0b010#3, lowByte a16, highByte a16] ∧
      exec f.1 = jumpIf (0b11#2 ++ cond.code ++ 0b010#3) cond a16 :=
  List.forall_iff_forall_mem.1
    ⟨⟨.nz, rfl, rfl, rfl⟩, ⟨.z, rfl, rfl, rfl⟩, ⟨.nc, rfl, rfl, rfl⟩, ⟨.c, rfl, rfl, rfl⟩,
      ⟨.po, rfl, rfl, rfl⟩, ⟨.pe, rfl, rfl, rfl⟩, ⟨.p, rfl, rfl, rfl⟩, ⟨.m, rfl, rfl, rfl⟩⟩

/-- Settles O45: JMP transfers control, and every Jcc is `jumpIf` of its condition; the errors of DECODE are those of every
opcode with two operand bytes. -/
theorem jumpsGoToTheTarget : Obligations.JumpsGoToTheTarget := by
  refine ⟨fun s b1 b2 => ⟨bytes_wordOf _ b2 b1, ?_⟩, operandFetchOutOfBoundsIsFatal 0xC3#8, fun s b1 b2 f hf => ?_⟩
  · exact runHandler_goto_goesTo (op := 0xC3#8) (handled_of_classF rfl) (wordOf b2 b1) rfl rfl
  · obtain ⟨cond, hcond, hencode, hexec⟩ := jumpIfForms_cond (wordOf b2 b1) f hf
    obtain ⟨hclass, hlen⟩ := jumpIf_opcode cond.code
    have htraps := operandFetchOutOfBoundsIsFatal (0b11#2 ++ cond.code ++ 0b010#3)
    rw [hlen] at htraps
    rw [hcond, hencode, hexec]
    refine ⟨bytes_wordOf _ b2 b1, ?_, htraps⟩
    exact jumpIf_next (handled_of_classF hclass) (by rw [hlen]) cond (wordOf b2 b1)

/-! ## CALL and RET (R239, R240) -/

/-- Settles O46: CALL is `callTo` of its operand, and its three bytes make the return address PC + 3. -/
theorem callPushesTheReturnAddress : Obligations.CallPushesTheReturnAddress :=
  ⟨operandFetchOutOfBoundsIsFatal 0xCD#8, fun _ b1 b2 =>
    ⟨bytes_wordOf _ b2 b1, pushRule_of_callTo (handled_of_classF rfl) rfl rfl⟩⟩

/-- Settles O47: RET is `returnFrom`, a pop whose word goes to PC. -/
theorem retGoesToTheTopOfStack : Obligations.RetGoesToTheTopOfStack :=
  ⟨rfl, fun _ => popRule_of_returnFrom (handled_of_classF rfl) rfl⟩

end Sys2Proof.Machine
end

section
/-! PROOF. Class X, data movement: MVI, LDA, STA, LHLD, SHLD, XCHG, XTHL, SPHL (R250 to R257, R268). In the default handler
set a class X byte is handled as one of class F is; what is new is the access to a word of Memory at an address held in 16
bits. -/

namespace Sys2Proof.Machine

open Spec

/-- The default handler set handles every class X byte (R9). -/
theorem handled_of_full {s : State} (hfull : s.cfg.handlers = .full) {op : Byte} (hclass : opClass op = .x) :
    handled s.cfg.handlers op = true := by
  rw [handled_of_classX hclass, hfull]
  rfl

/-- The errors of DECODE for an opcode whose number of operand bytes is known. -/
theorem operandFetchTraps_of_length {op : Byte} {n : Nat} (hlen : operandLength op = n) : OperandFetchTraps op n :=
  hlen ▸ operandFetchOutOfBoundsIsFatal op

/-! ## MVI (R250, R251) -/

/-- The column `00 ddd 110` is of class X, with one operand byte (R85, R87, R95). -/
theorem mvi_opcode : ∀ ddd : BitVec 3,
    opClass (0b00#2 ++ ddd ++ 0b110#3) = .x ∧ operandLength (0b00#2 ++ ddd ++ 0b110#3) = 1 := by decide

/-- Every register form is `mviReg` of its register (R83, R114). -/
theorem mviForms_mviReg (d8 : Byte) : ∀ f ∈ mviForms d8,
    encode f.1 = [0b00#2 ++ f.2.code ++ 0b110#3, d8] ∧
      exec f.1 = mviReg (0b00#2 ++ f.2.code ++ 0b110#3) f.2 d8 := by
  simp only [mviForms, List.forall_mem_cons, List.not_mem_nil, false_implies, implies_true, and_true]
  exact ⟨⟨rfl, rfl⟩, ⟨rfl, rfl⟩, ⟨rfl, rfl⟩, ⟨rfl, rfl⟩, ⟨rfl, rfl⟩, ⟨rfl, rfl⟩, ⟨rfl, rfl⟩⟩

theorem exec_mviM (d8 : Byte) (s : State) :
    exec (.mviM d8) s = runHandler 0x36#8 s ((memWrite s (hl s) d8).map .stay) := by
  rw [← addrM_eq_hl]
  rfl

/-- Settles O48: every register form is `mviReg`, which stays, and MVI M is a store at HL. -/
theorem mviLoadsTheImmediate : Obligations.MviLoadsTheImmediate := by
  refine ⟨fun d8 f hf s hfull => ?_, fun d8 s hfull => ⟨rfl, fun hin => ?_, fun hout => ?_⟩,
    operandFetchOutOfBoundsIsFatal 0x36#8⟩
  · obtain ⟨hclass, hlen⟩ := mvi_opcode f.2.code
    obtain ⟨hencode, hexec⟩ := mviForms_mviReg d8 f hf
    refine ⟨hencode, ?_, operandFetchTraps_of_length hlen⟩
    rw [hexec]
    exact runHandler_stay_fallsThrough (handled_of_full hfull hclass) (by rw [hlen]) rfl rfl
  · rw [exec_mviM]
    exact store_fallsThrough (handled_of_full hfull rfl) rfl hin d8
  · rw [exec_mviM]
    exact store_failsAt (handled_of_full hfull rfl) hout d8

/-! ## LDA and STA (R252, R253) -/

/-- Settles O49: LDA is a load of A, STA a store of A, at the address the two operand bytes make. -/
theorem ldaAndStaUseTheDirectAddress : Obligations.LdaAndStaUseTheDirectAddress := by
  refine ⟨⟨operandFetchOutOfBoundsIsFatal 0x3A#8, operandFetchOutOfBoundsIsFatal 0x32#8⟩, fun s b1 b2 hfull => ?_⟩
  have hload : handled s.cfg.handlers 0x3A#8 = true := handled_of_full hfull rfl
  have hstore : handled s.cfg.handlers 0x32#8 = true := handled_of_full hfull rfl
  rw [← wordOf_toNat b2 b1]
  refine ⟨bytes_wordOf _ b2 b1, bytes_wordOf _ b2 b1, fun hin => ⟨?_, ?_⟩, fun hout => ⟨?_, ?_⟩⟩
  · exact load_fallsThrough hload rfl hin (f := s.setReg .a) (fun _ => rfl) (fun _ => rfl)
  · exact store_fallsThrough hstore rfl hin s.regs.a
  · exact load_failsAt hload hout _
  · exact store_failsAt hstore hout s.regs.a

/-! ## A word of Memory, at an address held in 16 bits (R57, R58) -/

section Word

variable {s : State} {addr : Nat}

theorem word_inBounds (h : addr + 1 < s.cfg.memSize) : s.inBounds (addr : Int) ∧ s.inBounds ((addr : Int) + 1) :=
  ⟨(s.inBounds_nat _).2 (Nat.lt_of_succ_lt h), (s.inBounds_nat _).2 h⟩

/-- A word whose first byte is the last one of Memory. -/
theorem word_straddles_end (h : addr + 1 = s.cfg.memSize) :
    s.inBounds (addr : Int) ∧ ¬ s.inBounds ((addr : Int) + 1) :=
  ⟨(s.inBounds_nat _).2 (by omega), not_inBounds_of_le (addr := addr + 1) h.ge⟩

theorem memRead16_of_lt (h : addr + 1 < s.cfg.memSize) :
    memRead16 s addr = .ok (wordOf (s.mem.read (addr + 1)) (s.mem.read addr)) :=
  memRead16_ok (word_inBounds h).1 (word_inBounds h).2

theorem memWrite16_of_lt (h : addr + 1 < s.cfg.memSize) (v : Word) :
    memWrite16 s addr v = .ok { s with mem := (s.mem.write addr (lowByte v)).write (addr + 1) (highByte v) } :=
  memWrite16_ok v (word_inBounds h).1 (word_inBounds h).2

theorem memRead16_raises_at_end (h : addr + 1 = s.cfg.memSize) :
    memRead16 s addr = .error (.outOfBoundsAccess ((addr : Int) + 1)) :=
  memRead16_raises_high (word_straddles_end h).1 (word_straddles_end h).2

theorem memWrite16_raises_at_end (h : addr + 1 = s.cfg.memSize) (v : Word) :
    memWrite16 s addr v = .error (.outOfBoundsAccess ((addr : Int) + 1)) := by
  obtain ⟨hlow, hhigh⟩ := word_straddles_end h
  rw [memWrite16, if_pos hlow, if_neg hhigh]

theorem memRead16_raises_past_end (h : s.cfg.memSize ≤ addr) :
    memRead16 s addr = .error (.outOfBoundsAccess addr) :=
  memRead16_raises_low (not_inBounds_of_le h)

theorem memWrite16_raises_past_end (h : s.cfg.memSize ≤ addr) (v : Word) :
    memWrite16 s addr v = .error (.outOfBoundsAccess addr) := by
  rw [memWrite16, if_neg (not_inBounds_of_le h)]

end Word

/-! ## LHLD and SHLD (R254, R255) -/

section Direct

variable {op : Byte} {s : State} (hop : handled s.cfg.handlers op = true) {a16 : Word}

include hop

theorem loadPairDirect_fallsThrough (hlen : operandLength op = 2) (hin : a16.toNat + 1 < s.cfg.memSize) :
    loadPairDirect op a16 s =
      .next (fallsThrough s
        { s with regs := { s.regs with h := s.mem.read (a16.toNat + 1), l := s.mem.read a16.toNat } } 3) := by
  obtain ⟨-, -, hpair⟩ := s.setPair_wordOf (s.mem.read (a16.toNat + 1)) (s.mem.read a16.toNat)
  rw [loadPairDirect, memRead16_of_lt hin, ← hpair]
  exact runHandler_stay_fallsThrough hop (by rw [hlen]) rfl rfl

theorem storePairDirect_fallsThrough (hlen : operandLength op = 2) (hin : a16.toNat + 1 < s.cfg.memSize) :
    storePairDirect op a16 s =
      .next (fallsThrough s
        { s with mem := (s.mem.write a16.toNat s.regs.l).write (a16.toNat + 1) s.regs.h } 3) := by
  rw [storePairDirect, memWrite16_of_lt hin, State.pair, lowByte_wordOf, highByte_wordOf]
  exact runHandler_stay_fallsThrough hop (by rw [hlen]) rfl rfl

theorem loadPairDirect_failsAt {addr : Int} (hread : memRead16 s a16.toNat = .error (.outOfBoundsAccess addr)) :
    loadPairDirect op a16 s = .next (failsAt s op addr) := by
  rw [loadPairDirect, hread]
  exact runHandler_error _ hop

theorem storePairDirect_failsAt {addr : Int}
    (hwrite : memWrite16 s a16.toNat (s.pair .hl) = .error (.outOfBoundsAccess addr)) :
    storePairDirect op a16 s = .next (failsAt s op addr) := by
  rw [storePairDirect, hwrite]
  exact runHandler_error _ hop

end Direct

/-- Settles O50: LHLD reads a word and SHLD writes one; a word of which a byte is out of bounds is neither read nor
written. -/
theorem lhldAndShldMoveTwoBytes : Obligations.LhldAndShldMoveTwoBytes := by
  refine ⟨⟨operandFetchOutOfBoundsIsFatal 0x2A#8, operandFetchOutOfBoundsIsFatal 0x22#8⟩, fun s a16 hfull => ?_⟩
  have hload : handled s.cfg.handlers 0x2A#8 = true := handled_of_full hfull rfl
  have hstore : handled s.cfg.handlers 0x22#8 = true := handled_of_full hfull rfl
  refine ⟨rfl, rfl, fun hin => ⟨?_, ?_⟩, fun hend => ⟨?_, ?_⟩, fun hout => ⟨?_, ?_⟩⟩
  · exact loadPairDirect_fallsThrough hload rfl hin
  · exact storePairDirect_fallsThrough hstore rfl hin
  · exact loadPairDirect_failsAt hload (memRead16_raises_at_end hend)
  · exact storePairDirect_failsAt hstore (memWrite16_raises_at_end hend _)
  · exact loadPairDirect_failsAt hload (memRead16_raises_past_end hout)
  · exact storePairDirect_failsAt hstore (memWrite16_raises_past_end hout _)

/-! ## XCHG, XTHL and SPHL (R256, R257, R268) -/

/-- Each half of HL goes to the same half of DE, and back. -/
theorem State.exchange_hl_de (s : State) :
    (s.setPair .hl (s.pair .de)).setPair .de (s.pair .hl) =
      { s with regs := { s.regs with h := s.regs.d, l := s.regs.e, d := s.regs.h, e := s.regs.l } } := by
  simp only [State.setPair, State.pair, highByte_wordOf, lowByte_wordOf]

section Top

variable {op : Byte} {s : State} (hop : handled s.cfg.handlers op = true)

include hop

/-- Both bytes of the old word are read before the new one is written over them. -/
theorem exchangeTop_fallsThrough (hlen : operandLength op = 0) (hin : s.sp.toNat + 1 < s.cfg.memSize) :
    exchangeTop op s =
      .next (fallsThrough s
        { s with
          regs := { s.regs with h := s.mem.read (s.sp.toNat + 1), l := s.mem.read s.sp.toNat }
          mem := (s.mem.write s.sp.toNat s.regs.l).write (s.sp.toNat + 1) s.regs.h } 1) := by
  obtain ⟨-, -, hpair⟩ := State.setPair_wordOf
    { s with mem := (s.mem.write s.sp.toNat s.regs.l).write (s.sp.toNat + 1) s.regs.h }
    (s.mem.read (s.sp.toNat + 1)) (s.mem.read s.sp.toNat)
  rw [exchangeTop, memRead16_of_lt hin, memWrite16_of_lt hin, State.pair, lowByte_wordOf, highByte_wordOf, ← hpair]
  exact runHandler_stay_fallsThrough hop (by rw [hlen]) rfl rfl

theorem exchangeTop_failsAt {addr : Int} (hread : memRead16 s s.sp.toNat = .error (.outOfBoundsAccess addr)) :
    exchangeTop op s = .next (failsAt s op addr) := by
  rw [exchangeTop, hread]
  exact runHandler_error _ hop

end Top

/-- Settles O51: XCHG and SPHL stay; XTHL reads the word at SP, or raises before it writes. -/
theorem exchangesReadBeforeTheyWrite : Obligations.ExchangesReadBeforeTheyWrite := by
  refine ⟨⟨rfl, rfl, rfl⟩, fun s hfull => ?_⟩
  have hxthl : handled s.cfg.handlers 0xE3#8 = true := handled_of_full hfull rfl
  refine ⟨?_, fun hin => ?_, fun hend => ?_, fun hout => ?_, ?_⟩
  · rw [← s.exchange_hl_de]
    exact runHandler_stay_fallsThrough (op := 0xEB#8) (handled_of_full hfull rfl) rfl rfl rfl
  · exact exchangeTop_fallsThrough hxthl rfl hin
  · exact exchangeTop_failsAt hxthl (memRead16_raises_at_end hend)
  · exact exchangeTop_failsAt hxthl (memRead16_raises_past_end hout)
  · exact runHandler_stay_fallsThrough (op := 0xF9#8) (handled_of_full hfull rfl) rfl rfl rfl

end Sys2Proof.Machine
end

section
/-! PROOF. Class X, arithmetic: INR, DCR, INX, DCX, DAD, DAA, STC, CMC (R258 to R267). INR and DCR are one operation on a
byte, with the adder or the subtractor; DAA is the adder with the correction its pseudocode computes. -/

namespace Sys2Proof.Machine

open Spec

/-! ## INR and DCR (R258 to R261) -/

/-- The columns `00 ddd 100` and `00 ddd 101` are of class X, of one byte (R85, R87, R95). -/
theorem inr_opcode : ∀ ddd : BitVec 3,
    opClass (0b00#2 ++ ddd ++ 0b100#3) = .x ∧ operandLength (0b00#2 ++ ddd ++ 0b100#3) = 0 := by decide

theorem dcr_opcode : ∀ ddd : BitVec 3,
    opClass (0b00#2 ++ ddd ++ 0b101#3) = .x ∧ operandLength (0b00#2 ++ ddd ++ 0b101#3) = 0 := by decide

theorem encode_inrForms : ∀ f ∈ inrForms, encode f.1 = [0b00#2 ++ f.2.code ++ 0b100#3] := by decide

theorem encode_dcrForms : ∀ f ∈ dcrForms, encode f.1 = [0b00#2 ++ f.2.code ++ 0b101#3] := by decide

theorem exec_inrForms : ∀ f ∈ inrForms, exec f.1 = inrReg (0b00#2 ++ f.2.code ++ 0b100#3) f.2 :=
  List.map_inj_left.1 rfl

theorem exec_dcrForms : ∀ f ∈ dcrForms, exec f.1 = dcrReg (0b00#2 ++ f.2.code ++ 0b101#3) f.2 :=
  List.map_inj_left.1 rfl

theorem Flags.ofCount_eq_flagsOf (f : Flags) (o : AluOut) : f.ofCount o = flagsOf o.r f.cy o.ac := by
  rw [Flags.ofCount, Flags.setZSP_eq_flagsOf]
  rfl

/-- Adding 1 carries out of the low nibble iff that nibble is 15. -/
theorem Flags.ofCount_add8_one (f : Flags) (v : Byte) :
    f.ofCount (add8 v 1#8 false) = flagsOf (v + 1#8) f.cy (decide (v.toNat % 16 = 15)) := by
  have hac : (add8 v 1#8 false).ac = decide (v.toNat % 16 = 15) := by
    rw [add8_ac, decide_eq_decide]
    change 15 < v.toNat % 16 + 1 % 16 + 0 ↔ _
    omega
  rw [Flags.ofCount_eq_flagsOf, add8_r_false, hac]

/-- Subtracting 1 borrows out of the low nibble iff that nibble is 0. -/
theorem Flags.ofCount_sub8_one (f : Flags) (v : Byte) :
    f.ofCount (sub8 v 1#8 false) = flagsOf (v - 1#8) f.cy (decide (v.toNat % 16 = 0)) := by
  have hac : (sub8 v 1#8 false).ac = decide (v.toNat % 16 = 0) := by
    rw [sub8_ac, decide_eq_decide]
    change v.toNat % 16 < 1 % 16 + 0 ↔ _
    omega
  rw [Flags.ofCount_eq_flagsOf, sub8_r_false, hac]

section Count

variable {op : Byte} {s : State} (hop : handled s.cfg.handlers op = true)

include hop

/-- A byte written back at HL, with new flags. -/
theorem storeFlags_fallsThrough (hlen : operandLength op = 0) (hin : hl s < s.cfg.memSize) (v : Byte) (f : Flags) :
    runHandler op s ((memWrite s (hl s) v).map fun t => .stay (t.setFlags f)) =
      .next (fallsThrough s { s with mem := s.mem.write (hl s) v, flags := f } 1) := by
  rw [memWrite_ok v ((s.inBounds_nat _).2 hin)]
  exact runHandler_stay_fallsThrough hop (by rw [hlen]) rfl rfl

theorem inrMem_fallsThrough (hlen : operandLength op = 0) (hin : hl s < s.cfg.memSize) :
    inrMem op s =
      .next (fallsThrough s
        { s with
          mem := s.mem.write (hl s) (s.mem.read (hl s) + 1#8)
          flags :=
            flagsOf (s.mem.read (hl s) + 1#8) s.flags.cy
              (decide ((s.mem.read (hl s)).toNat % 16 = 15)) } 1) := by
  rw [inrMem, addrM_eq_hl, memRead_ok ((s.inBounds_nat _).2 hin), ← Flags.ofCount_add8_one, ← add8_r_false]
  exact storeFlags_fallsThrough hop hlen hin _ _

theorem dcrMem_fallsThrough (hlen : operandLength op = 0) (hin : hl s < s.cfg.memSize) :
    dcrMem op s =
      .next (fallsThrough s
        { s with
          mem := s.mem.write (hl s) (s.mem.read (hl s) - 1#8)
          flags :=
            flagsOf (s.mem.read (hl s) - 1#8) s.flags.cy
              (decide ((s.mem.read (hl s)).toNat % 16 = 0)) } 1) := by
  rw [dcrMem, addrM_eq_hl, memRead_ok ((s.inBounds_nat _).2 hin), ← Flags.ofCount_sub8_one, ← sub8_r_false]
  exact storeFlags_fallsThrough hop hlen hin _ _

theorem inrMem_failsAt (hout : s.cfg.memSize ≤ hl s) : inrMem op s = .next (failsAt s op (hl s)) := by
  rw [inrMem, addrM_eq_hl, memRead_raises (not_inBounds_of_le hout)]
  exact runHandler_error _ hop

theorem dcrMem_failsAt (hout : s.cfg.memSize ≤ hl s) : dcrMem op s = .next (failsAt s op (hl s)) := by
  rw [dcrMem, addrM_eq_hl, memRead_raises (not_inBounds_of_le hout)]
  exact runHandler_error _ hop

end Count

/-- Settles O52: INR r is `inrReg`, which stays; INR M reads the byte at HL and writes it back. -/
theorem inrIncrements : Obligations.InrIncrements := by
  refine ⟨fun f hf s hfull => ⟨encode_inrForms f hf, ?_⟩, rfl, fun s hfull hin => ?_, fun s hfull hout => ?_⟩
  · obtain ⟨hclass, hlen⟩ := inr_opcode f.2.code
    rw [exec_inrForms f hf, inrReg, Flags.ofCount_add8_one, add8_r_false]
    exact runHandler_stay_fallsThrough (handled_of_full hfull hclass) (by rw [hlen]) rfl rfl
  · exact inrMem_fallsThrough (op := 0x34#8) (handled_of_full hfull rfl) rfl hin
  · exact inrMem_failsAt (op := 0x34#8) (handled_of_full hfull rfl) hout

/-- Settles O53: DCR r is `dcrReg`, which stays; DCR M reads the byte at HL and writes it back. -/
theorem dcrDecrements : Obligations.DcrDecrements := by
  refine ⟨fun f hf s hfull => ⟨encode_dcrForms f hf, ?_⟩, rfl, fun s hfull hin => ?_, fun s hfull hout => ?_⟩
  · obtain ⟨hclass, hlen⟩ := dcr_opcode f.2.code
    rw [exec_dcrForms f hf, dcrReg, Flags.ofCount_sub8_one, sub8_r_false]
    exact runHandler_stay_fallsThrough (handled_of_full hfull hclass) (by rw [hlen]) rfl rfl
  · exact dcrMem_fallsThrough (op := 0x35#8) (handled_of_full hfull rfl) rfl hin
  · exact dcrMem_failsAt (op := 0x35#8) (handled_of_full hfull rfl) hout

/-! ## INX, DCX and DAD (R262 to R264) -/

/-- The columns `00 rp 0011`, `00 rp 1011` and `00 rp 1001` are of class X, of one byte (R85, R87, R95). -/
theorem inx_opcode : ∀ rp : BitVec 2,
    opClass (0b00#2 ++ rp ++ 0b0011#4) = .x ∧ operandLength (0b00#2 ++ rp ++ 0b0011#4) = 0 := by decide

theorem dcx_opcode : ∀ rp : BitVec 2,
    opClass (0b00#2 ++ rp ++ 0b1011#4) = .x ∧ operandLength (0b00#2 ++ rp ++ 0b1011#4) = 0 := by decide

theorem dad_opcode : ∀ rp : BitVec 2,
    opClass (0b00#2 ++ rp ++ 0b1001#4) = .x ∧ operandLength (0b00#2 ++ rp ++ 0b1001#4) = 0 := by decide

theorem encode_inxForms : ∀ f ∈ inxForms, encode f.1 = [0b00#2 ++ f.2.code ++ 0b0011#4] := by decide

theorem encode_dcxForms : ∀ f ∈ dcxForms, encode f.1 = [0b00#2 ++ f.2.code ++ 0b1011#4] := by decide

theorem encode_dadForms : ∀ f ∈ dadForms, encode f.1 = [0b00#2 ++ f.2.code ++ 0b1001#4] := by decide

theorem exec_inxForms : ∀ f ∈ inxForms, exec f.1 = inxPair (0b00#2 ++ f.2.code ++ 0b0011#4) f.2 :=
  List.map_inj_left.1 rfl

theorem exec_dcxForms : ∀ f ∈ dcxForms, exec f.1 = dcxPair (0b00#2 ++ f.2.code ++ 0b1011#4) f.2 :=
  List.map_inj_left.1 rfl

theorem exec_dadForms : ∀ f ∈ dadForms, exec f.1 = dadPair (0b00#2 ++ f.2.code ++ 0b1001#4) f.2 :=
  List.map_inj_left.1 rfl

/-- Settles O54: every form writes its pair and stays. -/
theorem inxAndDcxCountAPair : Obligations.InxAndDcxCountAPair := by
  refine ⟨fun f hf s hfull => ⟨encode_inxForms f hf, ?_⟩, fun f hf s hfull => ⟨encode_dcxForms f hf, ?_⟩⟩
  · obtain ⟨hclass, hlen⟩ := inx_opcode f.2.code
    rw [exec_inxForms f hf]
    exact runHandler_stay_fallsThrough (handled_of_full hfull hclass) (by rw [hlen]) (State.setPair_cfg ..)
      (State.setPair_runState ..)
  · obtain ⟨hclass, hlen⟩ := dcx_opcode f.2.code
    rw [exec_dcxForms f hf]
    exact runHandler_stay_fallsThrough (handled_of_full hfull hclass) (by rw [hlen]) (State.setPair_cfg ..)
      (State.setPair_runState ..)

/-- Bits 15:8 of an integer. -/
theorem highByte_ofNat (n : Nat) : highByte (BitVec.ofNat 16 n) = BitVec.ofNat 8 (n / 256) := by
  apply BitVec.eq_of_toNat_eq
  rw [highByte_toNat]
  simp only [BitVec.toNat_ofNat]
  omega

/-- Bits 7:0 of an integer. -/
theorem lowByte_ofNat (n : Nat) : lowByte (BitVec.ofNat 16 n) = BitVec.ofNat 8 n := by
  apply BitVec.eq_of_toNat_eq
  rw [lowByte_toNat]
  simp only [BitVec.toNat_ofNat]
  omega

theorem dadSum_eq (p : Pair) (s : State) : dadSum p s = hl s + (s.pair p).toNat := by
  rw [dadSum, hl, ← wordOf_toNat]
  rfl

/-- Settles O55: every form is `dadPair`, which writes the integer sum to HL and its bit 16 to Carry. -/
theorem dadAddsToHL : Obligations.DadAddsToHL := by
  intro f hf s hfull
  obtain ⟨hclass, hlen⟩ := dad_opcode f.2.code
  refine ⟨encode_dadForms f hf, ?_⟩
  rw [exec_dadForms f hf, dadPair, dadSum_eq, State.setPair, highByte_ofNat, lowByte_ofNat]
  exact runHandler_stay_fallsThrough (handled_of_full hfull hclass) (by rw [hlen]) rfl rfl

/-! ## DAA, STC and CMC (R265 to R267) -/

theorem daaLow_iff (a : Byte) (ac : Bool) : daaLow a ac = true ↔ ac = true ∨ a.toNat % 16 > 9 := by
  simp [daaLow, lowNibble]

theorem daaHigh_iff (a : Byte) (cy : Bool) :
    daaHigh a cy = true ↔ cy = true ∨ a.toNat / 16 > 9 ∨ (a.toNat / 16 ≥ 9 ∧ a.toNat % 16 > 9) := by
  simp [daaHigh, lowNibble, highNibble, or_assoc]

/-- The two corrections are multiples of 6 and of 0x60, so their sum is a byte whose low nibble is the first. -/
theorem daa8_eq {a : Byte} {cy ac : Bool} {low high : Nat} (hlow : low = if daaLow a ac then 0x06 else 0)
    (hhigh : high = if daaHigh a cy then 0x60 else 0) :
    daa8 a cy ac =
      { r := BitVec.ofNat 8 (a.toNat + (low + high))
        cy := cy || decide (high = 0x60)
        ac := decide (a.toNat % 16 + low > 15) } := by
  have hcorrection : (daaCorrection a cy ac).toNat = low + high ∧ (low + high) % 16 = low := by
    rw [daaCorrection, ← hlow, ← hhigh, BitVec.toNat_ofNat]
    split at hlow <;> split at hhigh <;> omega
  obtain ⟨hvalue, hnibble⟩ := hcorrection
  have hcy : daaHigh a cy = decide (high = 0x60) := by
    rw [hhigh]
    cases daaHigh a cy <;> rfl
  rw [daa8, add8, lowNibble, lowNibble, hvalue, hnibble, hcy]
  rfl

/-- Settles O56: DAA is the adder with the correction, whose two parts the statement names; STC and CMC write Carry. -/
theorem daaStcCmcSetTheCarry : Obligations.DaaStcCmcSetTheCarry := by
  refine ⟨⟨rfl, rfl, rfl⟩, fun s hfull => ⟨?_, ?_, ?_⟩⟩
  · rintro _ _ low high _ rfl rfl hlow hhigh rfl
    have hexec : exec .daa s = decimalAdjust 0x27#8 s := rfl
    simp only [← daaLow_iff, ← daaHigh_iff] at hlow hhigh
    rw [hexec, decimalAdjust, daa8_eq hlow hhigh, Flags.ofAlu_eq_flagsOf]
    exact runHandler_stay_fallsThrough (handled_of_full hfull rfl) rfl rfl rfl
  · exact runHandler_stay_fallsThrough (op := 0x37#8) (handled_of_full hfull rfl) rfl rfl rfl
  · exact runHandler_stay_fallsThrough (op := 0x3F#8) (handled_of_full hfull rfl) rfl rfl rfl

end Sys2Proof.Machine
end

section
/-! PROOF. Class X, control transfer: conditional calls and returns, RST, PCHL (R290 to R307). A conditional one that is
taken is a call or a return; one that is not stays. -/

namespace Sys2Proof.Machine

open Spec

/-! ## Conditional calls (R290 to R297) -/

/-- The column `11 ccc 100` is of class X, with two operand bytes (R85, R87, R95). -/
theorem callIf_opcode : ∀ ccc : BitVec 3,
    opClass (0b11#2 ++ ccc ++ 0b100#3) = .x ∧ operandLength (0b11#2 ++ ccc ++ 0b100#3) = 2 := by decide

/-- Every form of Ccc is `callIf` of the condition that its code and its truth belong to (R83, R128). -/
theorem callIfForms_cond (a16 : Word) : ∀ f ∈ callIfForms a16, ∃ cond : Cond,
    f.2 = (cond.code, condHolds cond) ∧
      encode f.1 = [0b11#2 ++ cond.code ++ 0b100#3, lowByte a16, highByte a16] ∧
      exec f.1 = callIf (0b11#2 ++ cond.code ++ 0b100#3) cond a16 :=
  List.forall_iff_forall_mem.1
    ⟨⟨.nz, rfl, rfl, rfl⟩, ⟨.z, rfl, rfl, rfl⟩, ⟨.nc, rfl, rfl, rfl⟩, ⟨.c, rfl, rfl, rfl⟩,
      ⟨.po, rfl, rfl, rfl⟩, ⟨.pe, rfl, rfl, rfl⟩, ⟨.p, rfl, rfl, rfl⟩, ⟨.m, rfl, rfl, rfl⟩⟩

theorem callIf_taken {cond : Cond} {s : State} (h : condHolds cond s.flags = true) (op : Byte) (a16 : Word) :
    callIf op cond a16 s = callTo op a16 s := if_pos h

theorem callIf_not_taken {cond : Cond} {s : State} (h : condHolds cond s.flags = false) (op : Byte) (a16 : Word) :
    callIf op cond a16 s = runHandler op s (.ok (.stay s)) := if_neg (by rw [h]; decide)

/-- Settles O57: every form is `callIf` of its condition. -/
theorem conditionalCallsCallWhenTaken : Obligations.ConditionalCallsCallWhenTaken := by
  intro s b1 b2 hfull f hf
  obtain ⟨cond, hcond, hencode, hexec⟩ := callIfForms_cond (wordOf b2 b1) f hf
  obtain ⟨hclass, hlen⟩ := callIf_opcode cond.code
  have hop := handled_of_full hfull hclass
  rw [hcond, hencode]
  refine ⟨bytes_wordOf _ b2 b1, fun htaken => ?_, fun hnot => ?_, operandFetchTraps_of_length hlen⟩
  · exact pushRule_of_callTo hop (by rw [hlen]) ((congrFun hexec s).trans (callIf_taken htaken _ _))
  · rw [hexec, callIf_not_taken hnot]
    exact runHandler_stay_fallsThrough hop (by rw [hlen]) rfl rfl

/-! ## Conditional returns (R298 to R305) -/

/-- The column `11 ccc 000` is of class X, of one byte (R85, R87, R95). -/
theorem returnIf_opcode : ∀ ccc : BitVec 3,
    opClass (0b11#2 ++ ccc ++ 0b000#3) = .x ∧ operandLength (0b11#2 ++ ccc ++ 0b000#3) = 0 := by decide

/-- Every form of Rcc is `returnIf` of the condition that its code and its truth belong to (R83, R128). -/
theorem returnIfForms_cond : ∀ f ∈ returnIfForms, ∃ cond : Cond,
    f.2 = (cond.code, condHolds cond) ∧
      encode f.1 = [0b11#2 ++ cond.code ++ 0b000#3] ∧
      exec f.1 = returnIf (0b11#2 ++ cond.code ++ 0b000#3) cond :=
  List.forall_iff_forall_mem.1
    ⟨⟨.nz, rfl, rfl, rfl⟩, ⟨.z, rfl, rfl, rfl⟩, ⟨.nc, rfl, rfl, rfl⟩, ⟨.c, rfl, rfl, rfl⟩,
      ⟨.po, rfl, rfl, rfl⟩, ⟨.pe, rfl, rfl, rfl⟩, ⟨.p, rfl, rfl, rfl⟩, ⟨.m, rfl, rfl, rfl⟩⟩

theorem returnIf_taken {cond : Cond} {s : State} (h : condHolds cond s.flags = true) (op : Byte) :
    returnIf op cond s = returnFrom op s := if_pos h

theorem returnIf_not_taken {cond : Cond} {s : State} (h : condHolds cond s.flags = false) (op : Byte) :
    returnIf op cond s = runHandler op s (.ok (.stay s)) := if_neg (by rw [h]; decide)

/-- Settles O58: every form is `returnIf` of its condition. -/
theorem conditionalReturnsReturnWhenTaken : Obligations.ConditionalReturnsReturnWhenTaken := by
  intro s hfull f hf
  obtain ⟨cond, hcond, hencode, hexec⟩ := returnIfForms_cond f hf
  obtain ⟨hclass, hlen⟩ := returnIf_opcode cond.code
  have hop := handled_of_full hfull hclass
  rw [hcond]
  refine ⟨hencode, fun htaken => ?_, fun hnot => ?_⟩
  · exact popRule_of_returnFrom hop ((congrFun hexec s).trans (returnIf_taken htaken _))
  · rw [hexec, returnIf_not_taken hnot]
    exact runHandler_stay_fallsThrough hop (by rw [hlen]) rfl rfl

/-! ## RST and PCHL (R306, R307) -/

/-- The column `11 nnn 111` is of class X, of one byte (R85, R87, R95). -/
theorem rst_opcode : ∀ nnn : BitVec 3,
    opClass (0b11#2 ++ nnn ++ 0b111#3) = .x ∧ operandLength (0b11#2 ++ nnn ++ 0b111#3) = 0 := by decide

theorem encode_rstForms : ∀ f ∈ rstForms, encode f.1 = [0b11#2 ++ f.2 ++ 0b111#3] := by decide

theorem exec_rstForms : ∀ f ∈ rstForms,
    exec f.1 = callTo (0b11#2 ++ f.2 ++ 0b111#3) (BitVec.ofNat 16 (8 * f.2.toNat)) :=
  List.map_inj_left.1 rfl

/-- Settles O59: every form is `callTo` of eight times its number, and its one byte makes the return address PC + 1. -/
theorem rstCallsEightTimesN : Obligations.RstCallsEightTimesN := by
  intro s hfull f hf
  obtain ⟨hclass, hlen⟩ := rst_opcode f.2
  exact ⟨encode_rstForms f hf,
    pushRule_of_callTo (handled_of_full hfull hclass) (by rw [hlen]) (congrFun (exec_rstForms f hf) s)⟩

/-- Settles O60: PCHL is `jumpPair`, which transfers control to HL. -/
theorem pchlGoesToHL : Obligations.PchlGoesToHL :=
  ⟨rfl, fun s hfull =>
    runHandler_goto_goesTo (op := 0xE9#8) (handled_of_full hfull rfl) (BitVec.ofNat 16 (hl s)) rfl rfl⟩

end Sys2Proof.Machine
end

section
/-! PROOF. Errors: the instructions no handler set handles, class X in the documented set (R320 to R326), and that a step
which raises writes `RS` and `ERR` only (R345, R346). -/

namespace Sys2Proof.Machine

open Spec

/-! ## Opcodes without a handler (R320 to R326) -/

theorem raise_unimplementedOpcode (s : State) (op : Byte) : s.raise op .unimplementedOpcode = failsUnhandled s op := rfl

/-- The class of an instruction is that of its opcode byte (R95). -/
theorem opClass_opcode (i : Instr) : opClass i.opcode = i.opClass := by cases i <;> rfl

/-- Settles O20: no class X byte is in the documented set, and an instruction without a handler raises. -/
theorem classXIsFatalInTheDocumentedSet : Obligations.ClassXIsFatalInTheDocumentedSet := by
  intro i s hclass hdocumented
  have hop : handled s.cfg.handlers i.opcode = false := by
    rw [handled_of_classX ((opClass_opcode i).trans hclass), hdocumented]
    rfl
  rw [exec_not_handled hop, raise_unimplementedOpcode]

theorem unhandledForms_class : ∀ f ∈ unhandledForms, opClass f.2 = .p ∨ opClass f.2 = .u := by decide

theorem encode_unhandledForms : ∀ f ∈ unhandledForms, encode f.1 = [f.2] := by decide

/-- Settles O21: each is its one byte, of class P or U, which no handler set handles. -/
theorem unhandledInstructionsRaise : Obligations.UnhandledInstructionsRaise := by
  intro f hf s
  have hencode := encode_unhandledForms f hf
  have hopcode : f.1.opcode = f.2 := by rw [Instr.opcode, hencode, List.headD_cons]
  have hop : handled s.cfg.handlers f.2 = false := not_handled_of_classPU (unhandledForms_class f hf)
  refine ⟨hencode, hop, ?_⟩
  rw [exec_not_handled (hopcode ▸ hop), raise_unimplementedOpcode, hopcode]

/-! ## Errors are precise (R345, R346) -/

/-- What DECODE raises, it raises for the byte at PC (R112). -/
theorem fetch_raised_opcode {s : State} {op : Byte} {r : Raise} (h : fetch s = .raised op r) :
    op = s.mem.read s.pc.toNat := by
  rcases fetch_cases s with ⟨_, hf⟩ | ⟨_, _, hf⟩ | ⟨_, _, a, _, hf⟩ | ⟨_, _, b1, b2, _, hf⟩ <;> rw [hf] at h <;> cases h
  · rfl
  · rfl

/-- What is decoded is the instruction of the byte at PC (R112). -/
theorem fetch_decoded_opcode {s : State} {i : Instr} (h : fetch s = .decoded i) :
    i.opcode = s.mem.read s.pc.toNat := by
  rcases fetch_cases s with ⟨_, hf⟩ | ⟨_, _, hf⟩ | ⟨_, _, a, _, hf⟩ | ⟨_, _, b1, b2, _, hf⟩ <;> rw [hf] at h <;> cases h
  exact instrOf_opcode _ b1 b2

/-- An instruction that ends in ERROR has raised: what only advances keeps `RS` or halts. -/
theorem exec_error {i : Instr} {s t : State} (hs : s.runState ≠ .error) (h : exec i s = .next t)
    (ht : t.runState = .error) : ∃ r, t = s.raise i.opcode r := by
  rcases exec_cases h with ⟨r, -, hraise⟩ | ⟨u, npc, hu, rfl⟩
  · exact ⟨r, hraise⟩
  · exact absurd ht (u.advance_runState_ne_error (hu.runState ▸ hs) npc)

/-- Settles O18: an error is raised in DECODE or by the decoded instruction, with the byte at PC. -/
theorem errorsArePrecise : Obligations.ErrorsArePrecise := by
  refine ⟨fun s t hstep ht => ?_, fun i s t hs hexec ht => ?_⟩
  · obtain ⟨hrun, ⟨op, r, hfetch, rfl⟩ | ⟨i, hfetch, hexec⟩⟩ := step_cases hstep
    · exact ⟨_, rfl, fetch_raised_opcode hfetch, rfl⟩
    · obtain ⟨r, rfl⟩ := exec_error (by simp [hrun]) hexec ht
      exact ⟨_, rfl, fetch_decoded_opcode hfetch, rfl⟩
  · obtain ⟨r, rfl⟩ := exec_error hs hexec ht
    exact ⟨_, rfl, rfl, rfl⟩

end Sys2Proof.Machine
end

section
/-! PROOF. Reset with a loaded program (R370 to R373): what `boot` leaves in Memory, in `RS` and in the invariant. -/

namespace Sys2Proof.Machine

/-! ## Memory after placing bytes -/

/-- Bytes placed below `size` are read back at rising addresses. -/
theorem Memory.read_place_getElem {size : Nat} {bytes : List Byte} {m : Memory} {a k : Nat} (hk : k < bytes.length)
    (hfits : a + bytes.length ≤ size) : (Memory.place size m a bytes).read (a + k) = bytes[k] := by
  induction bytes generalizing m a k with
  | nil => cases hk
  | cons v bytes ih =>
    rw [List.length_cons] at hk hfits
    rw [Memory.place, if_pos (by omega)]
    cases k with
    | zero => exact (Memory.read_place_below bytes (Nat.lt_succ_self a)).trans (Memory.read_write_same m a v)
    | succ k =>
      have haddr : a + (k + 1) = a + 1 + k := by omega
      rw [haddr, List.getElem_cons_succ]
      exact ih (Nat.lt_of_succ_lt_succ hk) (by omega)

/-- Bytes placed below an address leave the byte there alone. -/
theorem Memory.read_place_above {size : Nat} (bytes : List Byte) {m : Memory} {a b : Nat} (h : a + bytes.length ≤ b) :
    (Memory.place size m a bytes).read b = m.read b := by
  induction bytes generalizing m a with
  | nil => rfl
  | cons v bytes ih =>
    rw [List.length_cons] at h
    rw [Memory.place, ih (by omega)]
    split
    · exact Memory.read_write_other m v (by omega)
    · rfl

/-! ## What `boot` leaves -/

/-- The state after reset with a loaded program, where its configuration is acceptable (R370, R373). -/
def bootState (memSize : Nat) (hs : HandlerSet) (image : List Byte) (rest : List Host.Cell) (init : InitState) :
    State where
  regs := init.regs
  sp := init.sp
  pc := 0x0000#16
  flags := init.flags
  mem := Memory.place memSize (Memory.ofCells memSize rest) 0 image
  runState := if image.length = 0 then .halt else .running
  err := none
  cfg := { memSize := memSize, programEnd := image.length, handlers := hs }

section Boot

variable {memSize : Nat} {hs : HandlerSet} {image : List Byte} {rest : List Host.Cell} {init : InitState}

theorem bootState_valid_iff :
    (bootState memSize hs image rest init).cfg.valid = true ↔
      1 ≤ memSize ∧ memSize ≤ 65536 ∧ image.length ≤ memSize := by
  simp [bootState, RunConfig.valid, and_assoc]

theorem boot_eq_next (hvalid : (bootState memSize hs image rest init).cfg.valid = true) :
    boot memSize hs image rest init = .next (bootState memSize hs image rest init) := if_pos hvalid

theorem boot_eq_refused (hinvalid : ¬ (bootState memSize hs image rest init).cfg.valid = true) :
    boot memSize hs image rest init = .refused .badConfiguration := if_neg hinvalid

/-- With an image PC is below its end; without one the core halts (R116). -/
theorem bootState_runOk : (bootState memSize hs image rest init).RunOk := by
  by_cases hempty : image.length = 0
  · exact (State.runOk_of_halt (if_pos hempty)).2 rfl
  · exact (State.runOk_of_running (if_neg hempty)).2 ⟨Nat.pos_of_ne_zero hempty, rfl⟩

theorem bootState_inv (hvalid : (bootState memSize hs image rest init).cfg.valid = true) :
    (bootState memSize hs image rest init).Inv :=
  ⟨⟨hvalid, Memory.wf_place image 0 (Memory.wf_ofCells memSize rest),
    Memory.within_place image 0 (Memory.within_ofCells memSize rest)⟩, bootState_runOk⟩

end Boot

/-- Settles O17: the configuration is valid exactly within the bounds; Memory is the image placed over the other cells. -/
theorem bootLeavesTheResetState : Obligations.BootLeavesTheResetState := by
  intro memSize hs image rest init
  refine ⟨fun hpos hmax hfits => ?_, fun hout => boot_eq_refused fun hvalid => ?_⟩
  · have hvalid : (bootState memSize hs image rest init).cfg.valid = true :=
      bootState_valid_iff.2 ⟨hpos, hmax, hfits⟩
    refine ⟨_, boot_eq_next hvalid, rfl, rfl, rfl, rfl, rfl, rfl, rfl, fun a ha => ?_, fun a ha _ => ?_,
      bootState_inv hvalid⟩
    · have hread := Memory.read_place_getElem (m := Memory.ofCells memSize rest) ha ((Nat.zero_add _).trans_le hfits)
      rwa [Nat.zero_add] at hread
    · exact Memory.read_place_above image (by omega)
  · have hbounds := bootState_valid_iff.1 hvalid
    omega

end Sys2Proof.Machine
end
